-- ==== Sys2Proof/Word.lean ====
section
/-! DEFINITION. The word types of the KV-4816 model and the identifiers of its units (spec 00_scope, Conventions). -/

namespace Sys2Proof

/-- One byte. -/
abbrev Byte := BitVec 8
/-- A 16-bit field. -/
abbrev Half := BitVec 16
/-- A 32-bit register or image word. -/
abbrev Word := BitVec 32
/-- A 64-bit engine register. -/
abbrev Dword := BitVec 64

/-- T0–T31. -/
abbrev TaskId := Fin 32
/-- Fabric regions 0–15. -/
abbrev RegionId := Fin 16
/-- CH0–CH47. -/
abbrev ChanId := Fin 48
/-- E0–E23; 24 stands for the safety engines SA and SB, one result (R245). -/
abbrev EngId := Fin 25
/-- W0–W31. -/
abbrev Reg := Fin 32
/-- The two engineering sessions (R234). -/
abbrev SesId := Fin 2

end Sys2Proof
end

