-- ==== Sys2Proof/Syntax.lean ====
section
/-! DEFINITION. The commands of the block: one constructor per row of spec/opcode_table.json, with the operands the
spec's text gives each (the table itself gives none), and the operand types they carry. -/

namespace Sys2Proof

/-- The host port that makes an access (R389). -/
inductive Port where
  | pcie
  | spi
  deriving DecidableEq, Repr

/-- Operand format of an FP instruction: P of FUNC[10] (Table 4-9). -/
inductive FpFmt where
  | s
  | d
  deriving DecidableEq, Repr

/-- Kinds of CVT operands: FUNC[10:8] and FUNC[7:5] (codes 0 to 5). -/
inductive CvtKind where
  | w
  | wu
  | l
  | lu
  | s
  | d
  deriving DecidableEq, Repr

/-- The supervisor's three watchdogs (R384). -/
inductive WdUnit where
  | timetable
  | service
  | supervisor
  deriving DecidableEq, Repr

/-- Clock domains in the row order of Table 1-4. -/
inductive ClockDomain where
  | ckFab
  | ckFbe
  | ckImg
  | ckSvc
  | ckSafe
  | ckNet
  | ckSync
  | ckPcie
  | ckRtc
  | ckRef
  | channel (c : ChanId)
  deriving DecidableEq, Repr

/-- What the comparator compares (R245): the PC, a register result, the address of an access with SA's value, the data at an
address or of an image word, a byte of the frame that a connection has built. -/
inductive CompareLane where
  | pc
  | result (r : Reg)
  | address (sa : Word)
  | data (a : Nat)
  | image (out : Bool) (n : Nat)
  | frame (c : Fin 64) (i : Nat)
  deriving DecidableEq, Repr

/-- Causes of SAFE_STOP (R246): 1 mismatch, 2 double-bit ECC, 3 clock, 4 watchdog, 5 self-test. -/
inductive SafeCause where
  | mismatch (lane : CompareLane)
  | ecc
  | clock
  | watchdog
  | selftest
  deriving DecidableEq, Repr

/-- A station number of the ring, 1–254; 0 and 255 are no station (Table 9-2). -/
abbrev StnId := Fin 256

/-- What a frame at a ring port is by its EtherType: a KRIO frame, or a supervision frame of IEC 62439-3 (R222). -/
inductive RingEther where
  | krio
  | supervision (mac : BitVec 48)
  deriving DecidableEq, Repr

/-- A frame that arrives at P1 or P2: its bytes from the KRIO header on, whether its FCS is right, and whether it carries an
IEEE 802.1Q tag (R212, R213). -/
structure RingFrame where
  bytes  : List Byte
  fcsOk  : Bool
  tagged : Bool
  ether  : RingEther
  deriving DecidableEq, Repr

/-- How a frame arrives at P3 or P4: with an IEEE 802.1Q tag (R212), or as the duplicate of a frame taken from the other LAN of a
PRP node, as IEC 62439-3 judges its redundancy control trailer (R232). -/
structure PlantRx where
  port4  : Bool
  tagged : Bool
  dup    : Bool
  deriving DecidableEq, Repr

/-- The path of a Shacia safe frame: a UDP datagram that R243 has passed, or a KRIO SAFE frame of the ring. -/
inductive ShaciaRx where
  | datagram
  | ring (fcsOk tagged : Bool) (ether : RingEther)
  deriving DecidableEq, Repr

/-- A UDP datagram on port 5816: its source address and its payload. -/
structure ShaciaDatagram where
  src   : Word
  bytes : List Byte
  deriving DecidableEq, Repr

/-- A request on Modbus connection `c`: whether its segments arrive at P4 rather than P3. -/
structure MbRx where
  c     : Fin 8
  port4 : Bool
  deriving DecidableEq, Repr

/-- An Ethernet port, P1 to P4 from 0, with whether its link came up at 1000BASE-T full duplex. -/
structure LinkUp where
  port    : Fin 4
  gigFull : Bool
  deriving DecidableEq, Repr

/-- Where an IEEE 1588 message arrives. -/
inductive PtpPort where
  | p3
  | p4
  | ring
  deriving DecidableEq, Repr

/-- An IEEE 1588 message: whether it is a delay request, its domain number, its sequence number and its bytes. -/
structure PtpMsg where
  delayReq : Bool
  domain   : Byte
  seq      : Half
  bytes    : List Byte
  deriving DecidableEq, Repr

/-- An engineering request (Table 9-12): its session, header FLAGS, REQ_ID and body bytes. -/
structure EsReq where
  ses   : SesId
  flags : Half
  reqId : Word
  body  : List Byte
  deriving DecidableEq, Repr

/-- An error the scrubber finds (R54): one bit corrected, or two bits. `routing` tells a routing word (its slot in
`idx`) from a cell word (its cluster and cell, 8c + k, in `idx`). -/
structure ScrubErr where
  region  : RegionId
  plane1  : Bool
  block   : Fin 64
  routing : Bool
  idx     : Fin 256
  double  : Bool
  deriving DecidableEq, Repr

/-- One bit of a cell word or of a routing word (its slot in `idx`) of a configuration plane. -/
structure PlaneBit where
  region  : RegionId
  plane1  : Bool
  block   : Fin 64
  routing : Bool
  idx     : Fin 256
  bit     : Fin 128
  deriving DecidableEq, Repr

/-- What has been upset since the wave before (R55, R62): state bits and configuration bits. -/
structure Upsets where
  bits   : List Nat
  planes : List PlaneBit
  deriving DecidableEq, Repr

/-- A current limit begins or ends (R177), with the load current in mA at that moment. -/
structure LimitCurrent where
  active : Bool
  ma     : Half
  deriving DecidableEq, Repr

/-- What the Dawn scan finds of a record whose write was interrupted (R306, R328): VALID incomplete; VALID that reads
correctly but fails a margin read, with the record's CRC correct or not; VALID complete. -/
inductive SlotFound where
  | incomplete
  | marginal (crcOk : Bool)
  | complete
  deriving DecidableEq, Repr

/-- A write that a reset or a power failure interrupted (R319): a page write with what it carried; an increment whose bit was
being programmed, or the new record of its carry (R313); the Diary record under drain; the copy written last of the
replacement table (R302) or of the journal's control block (R324); OPTIME (R316). -/
inductive FlashCut where
  | page (page : Fin 4096) (off : Byte) (data : List Byte) (found : SlotFound)
  | increment (counter : Fin 1024) (carry : Option SlotFound)
  | diary (found : SlotFound)
  | remap
  | journal
  | optime
  deriving DecidableEq, Repr

/-- What REFRESH_CHECK meets in the flash (R317): the sector checked holds a weak bit; physical sectors that fail the verify
of their next program (R302); pages whose newest record has lost bits since it was written (R308); chunks of the package held
that have (R358). -/
structure CheckFound where
  weak   : Bool
  worn   : List (Fin 4096)
  lost   : List (Fin 4096)
  chunks : List (Fin 512)
  deriving DecidableEq, Repr

/-- The spaces a host writes to: BAR0, BAR2 (Table 16-13), the configuration space of the PCIe endpoint (R387). -/
inductive HostSpace where
  | bar0 | bar2 | config
  deriving DecidableEq, Repr

/-- What the tests of Dawn find (R375): physical facts that no state of the module determines. -/
structure DawnIn where
  /-- Logic power was absent before this Dawn: a cold Dawn (R375). -/
  cold : Bool
  /-- ROLE_SEL tied to logic ground (R273). -/
  roleB : Bool
  /-- RESET_BTN_N closed at the start of Dawn (R379). -/
  button : Bool
  /-- A shared unit that failed its self-test (cause SELFTEST, R382). -/
  sharedFail : Option (Fin 16)
  /-- Bit n: region n failed its self-test (R21). -/
  regionFail : BitVec 16
  /-- The safety self-test passed (R248). -/
  safetyOk : Bool
  /-- The confirmed bank passes its header and part digests; the other one does (R363). -/
  bankOk : Bool
  otherOk : Bool
  /-- The canary word of the backup domain is intact (R351). -/
  canaryOk : Bool
  /-- VBAT in mV (Table 14-1). -/
  vbat : Half
  /-- Duration of the Dawn in ms (SUP_DAWN_MS). -/
  ms : Half
  /-- CK_REF runs (R29). -/
  refOk : Bool
  /-- The flash writes that were interrupted, in the order of their areas (R319). -/
  cuts : List FlashCut
  deriving DecidableEq, Repr

/-- What an analogue channel's converters deliver at one conversion (R190, R194): the measured value (nA or µV; the
readback in AO_I), the loop supply current limit, the loop supply at RET and the terminal voltage, in 10 mV. -/
structure AnaIn where
  value     : Int
  inLimit   : Bool
  loopV     : Half
  termV     : Half
  deriving DecidableEq, Repr

/-- One 12-byte entry of a WORDS or PARTNER record or of a batch (Table 11-6, R288). -/
structure WordEntry where
  num  : Nat
  data : Word
  tag  : Word
  deriving DecidableEq, Repr

/-- What a MARK record starts (Table 11-6). -/
inductive MarkKind where
  | rollCall
  | reflexCapture
  | eventArrival
  deriving DecidableEq, Repr

/-- A READ record (Table 11-14). KIND is 1 to 7. -/
structure ReadRec where
  task   : TaskId
  kind   : Byte
  lesson : Half
  first  : Half
  values : List Dword
  deriving DecidableEq, Repr

/-- How a record arrives over Trelex (Table 11-5): SCAN_SEQ and ACK_SEQ of its frame, its place in the frame from 0, whether the
frame's CRC is right, and whether the record is the frame's last. -/
structure TrelexRx where
  seq   : Word
  ack   : Word
  index : Nat
  crcOk : Bool
  last  : Bool
  deriving DecidableEq, Repr

/-- A record of the partner, or its first field, with how it arrives. -/
structure FromPartner (α : Type) where
  rx  : TrelexRx
  val : α
  deriving DecidableEq, Repr

/-- One DELTA entry (Table 11-16): KIND, INDEX and its 12 STATE bytes. -/
structure DeltaEntry where
  kind  : Byte
  index : Half
  state : List Byte
  deriving DecidableEq, Repr

/-- A COMPARE record (Table 11-17). -/
structure CompareRec where
  task        : TaskId
  stopCause   : Byte
  fromStandby : Bool
  result      : Byte
  act         : Word
  crcActive   : Word
  crcStandby  : Word
  deriving DecidableEq, Repr

/-- A CONTROL HELLO message (Table 11-18). -/
structure HelloMsg where
  variant   : Byte
  strapB    : Bool
  state     : Byte
  protocol  : Half
  fwVersion : Word
  gen       : Word
  digest    : List Byte
  deriving DecidableEq, Repr

/-- What stage 9 of a load finds in the regions (R43): failed self-tests, retries of frames, and third retries that
failed (region, plane, block), first failure first. -/
structure RegionTest where
  selftestFail : BitVec 16
  retries      : List (RegionId × Nat)
  frameFail    : List (RegionId × Bool × Fin 64)
  deriving DecidableEq, Repr

/-- The commands of spec/opcode_table.json, one constructor per row, in the table's order. -/
inductive Instr where
  /-- NOP (R394): Mailbox command that does nothing and posts an OK result. -/
  | nop (p : Port) (tag : Half)
  /-- RESET (R382): Mailbox command that, with its guard value, posts OK and enters a full reset with cause HOST_RESET 1 ms later. -/
  | hostReset (p : Port) (tag : Half)
  /-- TASK_STOP (R114): Mailbox command that stops a task at the end of its current activation, or at once when it is idle. -/
  | taskStop (p : Port) (tag : Half)
  /-- TASK_START (R114): Mailbox command that starts a stopped or faulted task at its next due time or arrival, unless an exception of the rule applies. -/
  | taskStart (p : Port) (tag : Half)
  /-- HOST_EVENT (R113): Mailbox command that delivers host event 0-15 to the event tasks that name it. -/
  | hostEvent (p : Port) (tag : Half)
  /-- HOST_WRITE (R395): Mailbox command that sends XFER_BUF entries as one input batch through the host queue with ORIGIN 6. -/
  | hostWrite (p : Port) (tag : Half)
  /-- REGION_RESTART (R52): Mailbox command that stops a region's task, self-tests and reloads both planes, and restarts the task. -/
  | regionRestart (p : Port) (tag : Half)
  /-- CHANNEL_RESTART (R53): Mailbox command that glides a channel to STOPPED, resends its record and brings it back to READY. -/
  | channelRestart (p : Port) (tag : Half)
  /-- XFER_APPEND (R394): Mailbox command that appends bytes of XFER_BUF to the assembly buffer at the expected offset. -/
  | xferAppend (p : Port) (tag : Half)
  /-- XFER_FETCH (R394): Mailbox command that fills the assembly buffer by bus-master read from host memory. -/
  | xferFetch (p : Port) (tag : Half) (hostMem : List Byte)
  /-- XFER_CLEAR (R394): Mailbox command that empties the assembly buffer. -/
  | xferClear (p : Port) (tag : Half)
  /-- IMG_BEGIN (R394): Mailbox command that opens a host upload of an image of the given size in staging. -/
  | imgBegin (p : Port) (tag : Half)
  /-- IMG_SEGMENT (R394): Mailbox command that stores the assembly buffer as the next segment of the upload. -/
  | imgSegment (p : Port) (tag : Half)
  /-- IMG_END (R394): Mailbox command that ends the upload and starts the load stages of Table 2-16 on it. -/
  | imgEnd (p : Port) (tag : Half)
  /-- IMG_ABORT (R394): Mailbox command that discards the held upload without changing CFG_LOAD. -/
  | imgAbort (p : Port) (tag : Half)
  /-- UPLOAD_TIMEOUT (R394): 60 s without a segment discards the host upload. -/
  | uploadTimeout
  /-- PS_READ (R307): Mailbox command that returns the current content of a parameter-store page. -/
  | psRead (p : Port) (tag : Half)
  /-- PS_WRITE (R304): Mailbox command that appends a parameter-store record for a host page and reports OK after its VALID is complete. -/
  | psWrite (p : Port) (tag : Half)
  /-- DCNT_READ (R311): Mailbox command that returns the value of a durable counter. -/
  | dcntRead (p : Port) (tag : Half)
  /-- DCNT_INC (R312): Mailbox command that programs the next bitmap bit of a durable counter and reports the new value. -/
  | dcntInc (p : Port) (tag : Half)
  /-- SWITCHOVER (R291): Mailbox command that makes an ACTIVE module with a READY partner hand over and enter SYNCING. -/
  | switchover (p : Port) (tag : Half)
  /-- RESYNC (R290): Mailbox command that restarts resynchronisation according to the receiving module's pair state. -/
  | resync (p : Port) (tag : Half)
  /-- UPD_BEGIN (R359): Mailbox command that opens the download of an update package. -/
  | updBegin (p : Port) (tag : Half)
  /-- UPD_CHUNK (R358): Mailbox command that stores a 64 KB package chunk and appends its RECEIVED record. -/
  | updChunk (p : Port) (tag : Half)
  /-- UPD_VERIFY (R357): Mailbox command that starts verification of the held package. -/
  | updVerify (p : Port) (tag : Half)
  /-- UPD_ACTIVATE (R362): Mailbox command that writes the ACTIVATE record and performs a commanded full reset onto the prepared bank. -/
  | updActivate (p : Port) (tag : Half)
  /-- UPD_CONFIRM (R365): Mailbox command that confirms the firmware on trial by writing the CONFIRM record. -/
  | updConfirm (p : Port) (tag : Half)
  /-- UPD_REVERT (R364): Mailbox command that appends a REVERT record in TRIAL and performs a commanded full reset. -/
  | updRevert (p : Port) (tag : Half)
  /-- UPD_CANCEL (R359): Mailbox command that discards the held package and its records. -/
  | updCancel (p : Port) (tag : Half)
  /-- MB_RESULT_READ (R393): Host read of MB_RESULT that latches the other result registers into the reading port's shadow. -/
  | mbResultRead (p : Port)
  /-- HELLO (R236): Engineering request that opens a session, grants write rights if requested and available, and returns identity. -/
  | hello (r : EsReq)
  /-- RELEASE (R236): Engineering request that gives up the session's write rights. -/
  | release (r : EsReq)
  /-- REG_READ (R388): Engineering request that reads BAR0 dwords, each as one host read. -/
  | regRead (r : EsReq)
  /-- REG_WRITE (R388): Engineering request that writes BAR0 dwords, each as one host write. -/
  | regWrite (r : EsReq)
  /-- IMAGE_READ (R391): Engineering request that returns IW or QW words with tags from one snapshot. -/
  | imageRead (r : EsReq)
  /-- EXEC (R237): Engineering request that runs a mailbox command on the engineering station's own command path. -/
  | execCmd (r : EsReq)
  /-- FORCE_SET (R238): Engineering request that enters or replaces a force entry for a word. -/
  | forceSet (r : EsReq)
  /-- FORCE_CLEAR (R238): Engineering request that clears one force or every force. -/
  | forceClear (r : EsReq)
  /-- FORCE_LIST (R238): Engineering request that returns the force table. -/
  | forceList (r : EsReq)
  /-- SIM_SET (R238): Engineering request that enters or replaces a simulation entry for an IW word. -/
  | simSet (r : EsReq)
  /-- SIM_CLEAR (R238): Engineering request that clears one simulation or every simulation. -/
  | simClear (r : EsReq)
  /-- SIM_LIST (R238): Engineering request that returns the simulation table. -/
  | simList (r : EsReq)
  /-- DIARY_SNAP (R239): Engineering request that latches the engineering station's own Diary snapshot. -/
  | diarySnap (r : EsReq)
  /-- DIARY_READ (R239): Engineering request that returns Diary records from a SEQ under the station's snapshot. -/
  | diaryRead (r : EsReq)
  /-- CLOCK_SET (R239): Engineering request that stages a time and issues a calendar command as the host would. -/
  | clockSet (r : EsReq)
  /-- SETTING_READ (R239): Engineering request that returns a module setting of Table 9-15. -/
  | settingRead (r : EsReq)
  /-- SETTING_WRITE (R239): Engineering request that checks a setting and appends it to the module's parameter-store pages. -/
  | settingWrite (r : EsReq)
  /-- SAFETY_SEAL (R268): Engineering request that checks the password and writes a SEALED record to accept a new seal. -/
  | safetySeal (r : EsReq)
  /-- SAFETY_PASSWORD (R269): Engineering request that sets or changes the safety password. -/
  | safetyPassword (r : EsReq)
  /-- SAFETY_LOG_CLEAR (R270): Engineering request that removes old change-log records and appends a CLEARED record. -/
  | safetyLogClear (r : EsReq)
  /-- SAFETY_RESTART (R247): Engineering request that ends SAFE_STOP by rerunning the safety self-test. -/
  | safetyRestart (r : EsReq)
  /-- SAFETY_LOG_READ (R240): Engineering request that returns change-log records from a LOG_SEQ. -/
  | safetyLogRead (r : EsReq)
  /-- SAFETY_ERASE (R271): Engineering request in recovery boot that erases password, seal and safety section and appends ERASED. -/
  | safetyErase (r : EsReq)
  /-- UNKNOWN_OP (R235): An engineering request with an unlisted OP is answered with UNKNOWN_OP. -/
  | unknownOp (op : Half) (r : EsReq)
  /-- BAD_LENGTH_MESSAGE (R235): An engineering message whose LENGTH lies outside 16-65,600 closes the session. -/
  | badLengthMessage (ses : SesId) (length : Word)
  /-- SESSION_OPEN (R234): A TLS connection to the engineering service is authenticated, or refused when two sessions exist. -/
  | sessionOpen (cert : List Byte)
  /-- SESSION_IDLE (R236): 60 s without a request removes a session's write rights. -/
  | sessionIdle (ses : SesId)
  /-- NOTIFY (R240): The module sends a session a NOTIFY message with the event bits gathered, at most once per 10 ms. -/
  | notify (ses : SesId)
  /-- COMMIT (R339): RTC_CMD command that checks the staged time and copies it into the commit register. -/
  | commit
  /-- SUMMER_ADD (R344): RTC_CMD command that schedules a one-hour forward shift at the next second boundary. -/
  | summerAdd
  /-- SUMMER_SUB (R344): RTC_CMD command that schedules a one-hour backward shift at the next second boundary. -/
  | summerSub
  /-- RTC_CMD_UNKNOWN (R337): An RTC_CMD value other than the three commands is answered with RESULT UNKNOWN. -/
  | rtcCmdUnknown (v : Byte)
  /-- COMMIT_APPLY (R340): At the next CK_RTC edge the calendar takes the committed time and TIME_VALID becomes 1. -/
  | commitApply
  /-- CALENDAR_SECOND (R346): The prescaler completes a second, the calendar advances and any pending summer-time shift applies. -/
  | calendarSecond
  /-- PWRON_REQ_TIMEOUT (R348): PWRON_REQ held 10 s without a Dawn is released and WAKE_FAIL set. -/
  | pwronReqTimeout
  /-- RTC_TIME0_READ (R338): Host read of RTC_TIME0 that latches the date into the port's RTC_TIME1 shadow. -/
  | rtcTime0Read (p : Port)
  /-- RTC_SETTING_WRITE (R337): Write of RTC_UTC_OFS, RTC_SYNC or an alarm register that takes effect at once or is rejected with RANGE. -/
  | rtcSettingWrite (off : Half) (v : Word)
  /-- RTC_SYNC_COMPARE (R343): At second 30 of each plant-side minute the calendar is compared and committed when off by 1 ms or more. -/
  | rtcSyncCompare
  /-- RTC_CLOCK_FAIL (R349): CK_RTC silent for 1 ms or off by more than 1,000 ppm stops the calendar and sets CLK_FAIL. -/
  | rtcClockFail
  /-- RTC_CLOCK_RECOVERED (R349): CK_RTC within tolerance for 10 s clears CLK_FAIL and the calendar runs on. -/
  | rtcClockRecovered
  /-- NET_PTP_SEC_LO_READ (R244): Host read of NET_PTP_SEC_LO that latches the whole plant-side time. -/
  | netPtpSecLoRead (p : Port)
  /-- DIA_SNAP (R332): DIA_CTRL.SNAP latches DIA_SNAP_HEAD and DIA_SNAP_OLDEST. -/
  | diaSnap
  /-- DIA_NEXT (R332): DIA_CTRL.NEXT requests the record after the loaded one. -/
  | diaNext
  /-- DIA_CURSOR_WRITE (R332): A write to DIA_CURSOR requests the record at the SEQ written. -/
  | diaCursorWrite (seq : Word)
  /-- DIARY_LOAD_DONE (R333): A requested Diary record finishes loading into DIA_RECORD and RESULT leaves BUSY. -/
  | diaryLoadDone
  /-- TAKE (R391): IMG_SNAP_CTRL.TAKE starts one snapshot of the image. -/
  | take
  /-- FREEZE (R391): Setting or clearing IMG_SNAP_CTRL.FREEZE stops snapshots and discards one in progress. -/
  | freeze (on : Bool)
  /-- SNAPSHOT_PERIOD (R391): The snapshot period expires and a snapshot starts. -/
  | snapshotPeriod
  /-- SNAPSHOT_DONE (R391): A snapshot completes, becomes visible in BAR2 and sets HOST_IRQ.SNAP. -/
  | snapshotDone
  /-- HOST_IRQ_EN_WRITE (R390): A write to HOST_IRQ_EN that sends MSI-X vectors for causes already pending. -/
  | hostIrqEnWrite (v : Word)
  /-- HOST_REGISTER_WRITE (R388): A host write to a register without its own row, W1C clears and discarded writes included. -/
  | hostRegisterWrite (p : Port) (space : HostSpace) (off : Nat) (size : Nat) (v : Word)
  /-- SPI_FRAME_INVALID (R388): An SPI frame with an unknown opcode or space drives SPI_MISO low and is counted in HOST_ERR. -/
  | spiFrameInvalid
  /-- PERST_N (R386): PERST_N resets only the PCIe endpoint. -/
  | perstN
  /-- INPUT_LOSS (R373): The higher of PS1 and PS2 falls below the loss threshold and ride-through begins. -/
  | inputLoss (ps1 ps2 : Half)
  /-- INPUT_RETURN (R373): The input returns before Dusk and the ride-through ends. -/
  | inputReturn (ps1 ps2 : Half)
  /-- SUPPLY_INPUT (R372): One of PS1 and PS2 fails or returns while the other stays present. -/
  | supplyInput (ps2 : Bool) (returned : Bool) (mv : Half)
  /-- DUSK (R374): Input lost for 10 ms, or hold-up below HOLDUP_LOW, starts the Dusk sequence. -/
  | dusk
  /-- DUSK_INTERNAL_RESET (R374): After the retain save and journal entries the module enters internal reset. -/
  | duskInternalReset
  /-- DAWN (R375): Release of the internal reset runs the Dawn steps up to the start of the tasks. -/
  | dawn (d : DawnIn)
  /-- RST_N (R376): RST_N low for 10 µs or more releases IL_OUT, glides outputs, saves retain data and enters full reset. -/
  | rstN (lowNs : Nat)
  /-- BUTTON_PRESS (R378): An accepted closing of RESET_BTN_N starts a press. -/
  | buttonPress (sinceDawnMs openMs : Nat)
  /-- BUTTON_RELEASE (R378): An accepted opening ends a press, resetting for 50 ms to 10 s or counting a shorter press. -/
  | buttonRelease (heldMs : Nat)
  /-- BUTTON_STUCK (R379): A press that reaches 10 s latches BUTTON_STUCK without reset. -/
  | buttonStuck
  /-- BUTTON_STUCK_CLEAR (R379): The contact seen open for 1 s clears BUTTON_STUCK. -/
  | buttonStuckClear
  /-- CHIP_LEVEL_ERROR (R22): An uncorrectable chip-level ECC error or failed shared self-test causes a full reset without retain save. -/
  | chipLevelError (selftest : Bool) (source : Fin 16)
  /-- SUPERVISOR_WATCHDOG (R384): A Timetable, service-complex or supervisor watchdog expires and causes a full reset. -/
  | supervisorWatchdog (w : WdUnit)
  /-- CLOCK_LOSS (R29): Loss of a clock is detected and handled as its domain requires. -/
  | clockLoss (d : ClockDomain)
  /-- THERMAL_WARNING (R385): Baseplate or die temperature crosses a warning threshold and THERM_WARN or DIE_WARN changes. -/
  | thermalWarning (base die : Half)
  /-- THERMAL_SHUTDOWN (R385): The die at or above 125 °C for 10 ms causes a full reset with cause THERMAL. -/
  | thermalShutdown
  /-- THERMAL_RELEASE (R385): The die falls below 100 °C and the thermal reset is released. -/
  | thermalRelease (die : Half)
  /-- DUE_TIME (R117): A cyclic task's due time arrives and its Roll Call is requested. -/
  | dueTime (t : TaskId)
  /-- EVENT_ARRIVAL (R113): An event of Table 5-3 activates its event task or is held pending. -/
  | eventArrival (trigger : Word)
  /-- ROLL_CALL (R120): The Roll Call unit starts copying a task's input set, latching the seals. -/
  | rollCall (t : TaskId)
  /-- ROLL_CALL_END (R121): Roll Call ends and Lessons without predecessors become ready. -/
  | rollCallEnd (t : TaskId)
  /-- LESSON_START (R121): A ready FB Lesson starts when its engine becomes free. -/
  | lessonStart (l : Nat)
  /-- LESSON_COMPLETE (R121): The collector takes a Lesson's marker and its successors become ready. -/
  | lessonComplete (l : Nat)
  /-- SEAL_FLIP (R122): A task's Publish batch finishes on the apply port and its output groups flip together. -/
  | sealFlip (t : TaskId)
  /-- TASK_WATCHDOG (R127): The activation time reaches WATCHDOG_US without a flip and the task stops. -/
  | taskWatchdog (t : TaskId)
  /-- INPUT_BATCH_APPLIED (R139): A host or Trelex input batch is applied whole to the live input image. -/
  | inputBatchApplied (trelex : Bool)
  /-- REFLEX_ARRIVAL (R72): A trigger word entering the mirror starts a reflex wave or is held pending. -/
  | reflexArrival (t : TaskId)
  /-- WAVE (R67): A wave Lesson, alone or jointly, loads its ports and starts evaluating at clock 0. -/
  | wave (l : Nat)
  /-- WAVE_END (R78): At its end edge a wave applies all sinks into region queues, the Blackboard and timer ports. -/
  | waveEnd (l : Nat) (upsets : Upsets)
  /-- REFLEX_LANE_APPLY (R74): A reflex wave's output words are applied to the live output image in one collector step. -/
  | reflexLaneApply
  /-- SCRUB_PASS (R54): Every 10 ms the scrubber checks every cell and routing word of both planes. -/
  | scrubPass (errs : List ScrubErr)
  /-- TIMER_EXPIRY (R405): A timer's elapsed time reaches its preset and Q changes as its kind gives. -/
  | timerExpiry (n : Fin 8192)
  /-- ADD (R93): 64-bit wrapping add. -/
  | add (e : EngId) (rd ra rb : Reg)
  /-- SUB (R93): 64-bit wrapping subtract. -/
  | sub (e : EngId) (rd ra rb : Reg)
  /-- ADDW (R93): 32-bit wrapping add. -/
  | addw (e : EngId) (rd ra rb : Reg)
  /-- SUBW (R93): 32-bit wrapping subtract. -/
  | subw (e : EngId) (rd ra rb : Reg)
  /-- ADDS (R93): 64-bit signed saturating add. -/
  | adds (e : EngId) (rd ra rb : Reg)
  /-- SUBS (R93): 64-bit signed saturating subtract. -/
  | subs (e : EngId) (rd ra rb : Reg)
  /-- ADDSW (R93): 32-bit signed saturating add. -/
  | addsw (e : EngId) (rd ra rb : Reg)
  /-- SUBSW (R93): 32-bit signed saturating subtract. -/
  | subsw (e : EngId) (rd ra rb : Reg)
  /-- ADDUSW (R93): 32-bit unsigned saturating add. -/
  | addusw (e : EngId) (rd ra rb : Reg)
  /-- SUBUSW (R93): 32-bit unsigned saturating subtract. -/
  | subusw (e : EngId) (rd ra rb : Reg)
  /-- MUL (R93): Low 64 bits of the product. -/
  | mul (e : EngId) (rd ra rb : Reg)
  /-- MULW (R93): 32-bit wrapping multiply. -/
  | mulw (e : EngId) (rd ra rb : Reg)
  /-- MULSW (R93): 32-bit signed saturating multiply. -/
  | mulsw (e : EngId) (rd ra rb : Reg)
  /-- MULUSW (R93): 32-bit unsigned saturating multiply. -/
  | mulusw (e : EngId) (rd ra rb : Reg)
  /-- DIV (R94): 64-bit signed truncating divide with divide-by-zero handling. -/
  | div (e : EngId) (rd ra rb : Reg)
  /-- DIVU (R94): 64-bit unsigned divide. -/
  | divu (e : EngId) (rd ra rb : Reg)
  /-- DIVW (R94): 32-bit signed divide. -/
  | divw (e : EngId) (rd ra rb : Reg)
  /-- DIVUW (R94): 32-bit unsigned divide. -/
  | divuw (e : EngId) (rd ra rb : Reg)
  /-- REM (R94): 64-bit signed remainder. -/
  | rem (e : EngId) (rd ra rb : Reg)
  /-- REMU (R94): 64-bit unsigned remainder. -/
  | remu (e : EngId) (rd ra rb : Reg)
  /-- REMW (R94): 32-bit signed remainder. -/
  | remw (e : EngId) (rd ra rb : Reg)
  /-- REMUW (R94): 32-bit unsigned remainder. -/
  | remuw (e : EngId) (rd ra rb : Reg)
  /-- AND (R93): Bitwise AND. -/
  | and (e : EngId) (rd ra rb : Reg)
  /-- OR (R93): Bitwise OR. -/
  | or (e : EngId) (rd ra rb : Reg)
  /-- XOR (R93): Bitwise XOR. -/
  | xor (e : EngId) (rd ra rb : Reg)
  /-- ANDN (R93): Bitwise AND NOT. -/
  | andn (e : EngId) (rd ra rb : Reg)
  /-- SLL (R93): 64-bit shift left. -/
  | sll (e : EngId) (rd ra rb : Reg)
  /-- SRL (R93): 64-bit logical shift right. -/
  | srl (e : EngId) (rd ra rb : Reg)
  /-- SRA (R93): 64-bit arithmetic shift right. -/
  | sra (e : EngId) (rd ra rb : Reg)
  /-- SLLW (R93): 32-bit shift left. -/
  | sllw (e : EngId) (rd ra rb : Reg)
  /-- SRLW (R93): 32-bit logical shift right. -/
  | srlw (e : EngId) (rd ra rb : Reg)
  /-- SRAW (R93): 32-bit arithmetic shift right. -/
  | sraw (e : EngId) (rd ra rb : Reg)
  /-- ROL (R93): 64-bit rotate left. -/
  | rol (e : EngId) (rd ra rb : Reg)
  /-- ROR (R93): 64-bit rotate right. -/
  | ror (e : EngId) (rd ra rb : Reg)
  /-- ROLW (R93): 32-bit rotate left. -/
  | rolw (e : EngId) (rd ra rb : Reg)
  /-- RORW (R93): 32-bit rotate right. -/
  | rorw (e : EngId) (rd ra rb : Reg)
  /-- SLT (R93): Signed set-less-than. -/
  | slt (e : EngId) (rd ra rb : Reg)
  /-- SLTU (R93): Unsigned set-less-than. -/
  | sltu (e : EngId) (rd ra rb : Reg)
  /-- MIN (R93): Signed minimum. -/
  | min (e : EngId) (rd ra rb : Reg)
  /-- MAX (R93): Signed maximum. -/
  | max (e : EngId) (rd ra rb : Reg)
  /-- MINU (R93): Unsigned minimum. -/
  | minu (e : EngId) (rd ra rb : Reg)
  /-- MAXU (R93): Unsigned maximum. -/
  | maxu (e : EngId) (rd ra rb : Reg)
  /-- SEXTB (R93): Sign-extend byte. -/
  | sextb (e : EngId) (rd ra : Reg)
  /-- SEXTH (R93): Sign-extend halfword. -/
  | sexth (e : EngId) (rd ra : Reg)
  /-- SEXTW (R93): Sign-extend word. -/
  | sextw (e : EngId) (rd ra : Reg)
  /-- ZEXTB (R93): Zero-extend byte. -/
  | zextb (e : EngId) (rd ra : Reg)
  /-- ZEXTH (R93): Zero-extend halfword. -/
  | zexth (e : EngId) (rd ra : Reg)
  /-- ZEXTW (R93): Zero-extend word. -/
  | zextw (e : EngId) (rd ra : Reg)
  /-- SATSB (R93): Clamp to signed 8-bit range. -/
  | satsb (e : EngId) (rd ra : Reg)
  /-- SATSH (R93): Clamp to signed 16-bit range. -/
  | satsh (e : EngId) (rd ra : Reg)
  /-- SATSW (R93): Clamp to signed 32-bit range. -/
  | satsw (e : EngId) (rd ra : Reg)
  /-- SATUB (R93): Clamp to unsigned 8-bit range. -/
  | satub (e : EngId) (rd ra : Reg)
  /-- SATUH (R93): Clamp to unsigned 16-bit range. -/
  | satuh (e : EngId) (rd ra : Reg)
  /-- SATUW (R93): Clamp to unsigned 32-bit range. -/
  | satuw (e : EngId) (rd ra : Reg)
  /-- ADDI (R89): Add sign-extended immediate. -/
  | addi (e : EngId) (rd ra : Reg) (imm : Half)
  /-- ANDI (R89): AND with zero-extended immediate. -/
  | andi (e : EngId) (rd ra : Reg) (imm : Half)
  /-- ORI (R89): OR with zero-extended immediate. -/
  | ori (e : EngId) (rd ra : Reg) (imm : Half)
  /-- XORI (R89): XOR with zero-extended immediate. -/
  | xori (e : EngId) (rd ra : Reg) (imm : Half)
  /-- LUI (R89): Load upper immediate. -/
  | lui (e : EngId) (rd : Reg) (imm : Half)
  /-- SLTI (R89): Signed set-less-than immediate. -/
  | slti (e : EngId) (rd ra : Reg) (imm : Half)
  /-- SLTIU (R89): Unsigned set-less-than immediate. -/
  | sltiu (e : EngId) (rd ra : Reg) (imm : Half)
  /-- SLLI (R89): Shift left by immediate. -/
  | slli (e : EngId) (rd ra : Reg) (sh : BitVec 6)
  /-- SRLI (R89): Logical shift right by immediate. -/
  | srli (e : EngId) (rd ra : Reg) (sh : BitVec 6)
  /-- SRAI (R89): Arithmetic shift right by immediate. -/
  | srai (e : EngId) (rd ra : Reg) (sh : BitVec 6)
  /-- LB (R82): Load signed byte from LOCAL or SHARED. -/
  | lb (e : EngId) (rd ra : Reg) (imm : Half)
  /-- LBU (R82): Load unsigned byte. -/
  | lbu (e : EngId) (rd ra : Reg) (imm : Half)
  /-- LH (R82): Load signed halfword. -/
  | lh (e : EngId) (rd ra : Reg) (imm : Half)
  /-- LHU (R82): Load unsigned halfword. -/
  | lhu (e : EngId) (rd ra : Reg) (imm : Half)
  /-- LW (R82): Load signed word. -/
  | lw (e : EngId) (rd ra : Reg) (imm : Half)
  /-- LWU (R82): Load unsigned word. -/
  | lwu (e : EngId) (rd ra : Reg) (imm : Half)
  /-- LD (R82): Load doubleword. -/
  | ld (e : EngId) (rd ra : Reg) (imm : Half)
  /-- SB (R82): Store byte. -/
  | sb (e : EngId) (rd ra : Reg) (imm : Half)
  /-- SH (R82): Store halfword. -/
  | sh (e : EngId) (rd ra : Reg) (imm : Half)
  /-- SW (R82): Store word. -/
  | sw (e : EngId) (rd ra : Reg) (imm : Half)
  /-- SD (R82): Store doubleword. -/
  | sd (e : EngId) (rd ra : Reg) (imm : Half)
  /-- AMOADD_W (R83): Atomic 32-bit add in SHARED. -/
  | amoaddW (e : EngId) (rd ra rb : Reg)
  /-- AMOADD_D (R83): Atomic 64-bit add in SHARED. -/
  | amoaddD (e : EngId) (rd ra rb : Reg)
  /-- AMOSWAP_W (R83): Atomic 32-bit swap in SHARED. -/
  | amoswapW (e : EngId) (rd ra rb : Reg)
  /-- AMOSWAP_D (R83): Atomic 64-bit swap in SHARED. -/
  | amoswapD (e : EngId) (rd ra rb : Reg)
  /-- BEQ (R81): Branch if equal. -/
  | beq (e : EngId) (ra rb : Reg) (off : Half)
  /-- BNE (R81): Branch if not equal. -/
  | bne (e : EngId) (ra rb : Reg) (off : Half)
  /-- BLT (R81): Branch if signed less than. -/
  | blt (e : EngId) (ra rb : Reg) (off : Half)
  /-- BGE (R81): Branch if signed greater or equal. -/
  | bge (e : EngId) (ra rb : Reg) (off : Half)
  /-- BLTU (R81): Branch if unsigned less than. -/
  | bltu (e : EngId) (ra rb : Reg) (off : Half)
  /-- BGEU (R81): Branch if unsigned greater or equal. -/
  | bgeu (e : EngId) (ra rb : Reg) (off : Half)
  /-- J (R81): PC-relative jump. -/
  | j (e : EngId) (off : BitVec 26)
  /-- JAL (R81): Jump and link into W31. -/
  | jal (e : EngId) (off : BitVec 26)
  /-- JALR (R81): Register-indirect jump and link. -/
  | jalr (e : EngId) (rd ra : Reg) (imm : Half)
  /-- ENTI (R108): Reads an instance descriptor into W30 and Wd, or raises INSTANCE. -/
  | enti (e : EngId) (rd ra : Reg) (imm : Half)
  /-- END (R87): Waits for SHARED stores and queues the Lesson's batch marker. -/
  | endLesson (e : EngId)
  /-- TRAP (R109): Raises a stopping fault with a code, stopping the task. -/
  | trap (e : EngId) (imm : Half)
  /-- ILLEGAL (R92): An illegal instruction word raises a stopping ILLEGAL fault. -/
  | illegal (e : EngId) (word : Word)
  /-- FADD (R95): Floating-point add. -/
  | fadd (e : EngId) (p : FpFmt) (rd ra rb : Reg)
  /-- FSUB (R95): Floating-point subtract. -/
  | fsub (e : EngId) (p : FpFmt) (rd ra rb : Reg)
  /-- FMUL (R95): Floating-point multiply. -/
  | fmul (e : EngId) (p : FpFmt) (rd ra rb : Reg)
  /-- FDIV (R95): Floating-point divide. -/
  | fdiv (e : EngId) (p : FpFmt) (rd ra rb : Reg)
  /-- FSQRT (R95): Floating-point square root. -/
  | fsqrt (e : EngId) (p : FpFmt) (rd ra : Reg)
  /-- FMIN (R95): Floating-point minimum with ordered zeros. -/
  | fmin (e : EngId) (p : FpFmt) (rd ra rb : Reg)
  /-- FMAX (R95): Floating-point maximum with ordered zeros. -/
  | fmax (e : EngId) (p : FpFmt) (rd ra rb : Reg)
  /-- FABS (R95): Clear sign bit. -/
  | fabs (e : EngId) (p : FpFmt) (rd ra : Reg)
  /-- FNEG (R95): Invert sign bit. -/
  | fneg (e : EngId) (p : FpFmt) (rd ra : Reg)
  /-- FEQ (R95): Floating-point equal compare. -/
  | feq (e : EngId) (p : FpFmt) (rd ra rb : Reg)
  /-- FLT (R95): Floating-point less-than compare. -/
  | flt (e : EngId) (p : FpFmt) (rd ra rb : Reg)
  /-- FLE (R95): Floating-point less-or-equal compare. -/
  | fle (e : EngId) (p : FpFmt) (rd ra rb : Reg)
  /-- FCLASS (R95): Classify a floating-point value. -/
  | fclass (e : EngId) (p : FpFmt) (rd ra : Reg)
  /-- CVT (R96): Conversion between integer and floating-point kinds with saturation. -/
  | cvt (e : EngId) (src dst : CvtKind) (rtz : Bool) (rd ra : Reg)
  /-- CLKRD (R106): Reads the calendar from one instant. -/
  | clkrd (e : EngId) (rd : Reg)
  /-- TBRD (R89): Reads the module timebase in µs. -/
  | tbrd (e : EngId) (rd : Reg)
  /-- ACTRD (R89): Reads the running task's activation count. -/
  | actrd (e : EngId) (rd : Reg)
  /-- IDRD (R89): Reads task, engine and Lesson identity. -/
  | idrd (e : EngId) (rd : Reg)
  /-- GENRD (R89): Reads the running generation. -/
  | genrd (e : EngId) (rd : Reg)
  /-- FLTRD (R110): Reads the task's TASK_FAULT flags without clearing them. -/
  | fltrd (e : EngId) (rd : Reg)
  /-- LDI (R97): Reads an IW word's data from the task snapshot. -/
  | ldi (e : EngId) (rd ra : Reg) (imm : Half)
  /-- LDIT (R97): Reads an IW word's data and tag from the task snapshot. -/
  | ldit (e : EngId) (rd ra : Reg) (imm : Half)
  /-- LDQT (R98): Reads a QW word and tag from the live output image. -/
  | ldqt (e : EngId) (rd ra : Reg) (imm : Half)
  /-- STQ (R99): Queues an output word with QUAL GOOD, HOLD 0 and GLIDE 0. -/
  | stq (e : EngId) (rd ra : Reg) (imm : Half)
  /-- STQT (R99): Queues an output word with QUAL, HOLD and GLIDE from Wd. -/
  | stqt (e : EngId) (rd ra : Reg) (imm : Half)
  /-- LDBB (R101): Reads a Blackboard word after earlier stores of the engine are applied. -/
  | ldbb (e : EngId) (rd ra : Reg) (imm : Half)
  /-- STBB (R102): Replaces a whole Blackboard word. -/
  | stbb (e : EngId) (rd ra : Reg) (imm : Half)
  /-- STBBM (R102): Replaces the masked bits of a Blackboard word. -/
  | stbbm (e : EngId) (rd ra rb : Reg)
  /-- TRD (R103): Reads a timer's state word. -/
  | trd (e : EngId) (rd ra : Reg) (imm : Half)
  /-- TRP (R103): Reads a timer's preset. -/
  | trp (e : EngId) (rd ra : Reg) (imm : Half)
  /-- TIN (R104): Drives a timer's IN from FB code. -/
  | tin (e : EngId) (rd ra : Reg) (imm : Half)
  /-- TRST (R104): Drives a timer's reset from FB code. -/
  | trst (e : EngId) (rd ra : Reg) (imm : Half)
  /-- TPT (R104): Sets a timer's preset, effective at once. -/
  | tpt (e : EngId) (rd ra : Reg) (imm : Half)
  /-- ISRAM_RELOAD (R84): Reload of a failed 1 KB instruction SRAM page completes before the next Lesson. -/
  | isramReload (e : EngId) (page : Fin 256)
  /-- ENGINE_SCRUB (R84): Background scrub of LOCAL and instruction SRAM repairs or marks words at least every 100 ms. -/
  | engineScrub (e : EngId) (corrected : Nat) (localWords : List Nat) (iramWords : List Nat)
  /-- COUPLER_SLOT (R27): Each 5 µs slot the hub latches and sends every channel's outbound field. -/
  | couplerSlot
  /-- DATA_FIELD (R176): A channel receives a valid DATA field and decides what to apply. -/
  | dataField (c : ChanId) (ok : Bool)
  /-- STOP_FIELD (R185): A channel receives a STOP field, runs its profile to the end state and reports STOPPED. -/
  | stopField (c : ChanId) (ok : Bool)
  /-- CONFIG_FIELD (R185): A stopped channel receives a CONFIG chunk of its record, storing it after the CRC check. -/
  | configField (c : ChanId) (ok : Bool)
  /-- INBOUND_FIELD (R186): The hub receives a channel's inbound field and writes IW2n and IW2n+1. -/
  | inboundField (c : ChanId) (ok : Bool)
  /-- CHANNEL_BAD (R186): After 4 slots without a valid inbound field the hub writes the channel's words with QUAL BAD. -/
  | channelBad (c : ChanId)
  /-- CHANNEL_LOST (R186): After 8 slots without a valid inbound field the hub sets CH_STATE LOST. -/
  | channelLost (c : ChanId)
  /-- CHANNEL_WATCHDOG (R187): The channel watchdog expires and the channel sets WD_EXPIRED and glides if an output. -/
  | channelWatchdog (c : ChanId)
  /-- EDGE_ACCEPTED (R172): A raw change held for FILTER_US is accepted and time-stamped; `ageUs` is how long ago it came. -/
  | edgeAccepted (c : ChanId) (level : Bool) (ageUs : Half)
  /-- CURRENT_LIMIT (R177): An overload brings the output switch into its current limit. -/
  | currentLimit (c : ChanId) (ma : LimitCurrent)
  /-- OVERLOAD (R177): The current limit active for 1 ms sets OVERLOAD; inactive for 10 ms clears it. -/
  | overload (c : ChanId) (set : Bool)
  /-- OVERTEMP (R177): A switch reaching shutdown temperature opens and sets OVERTEMP. -/
  | overtemp (c : ChanId)
  /-- THERMAL_COOLDOWN (R177): The junction cooled by 20 K reacts according to LATCH. -/
  | thermalCooldown (c : ChanId)
  /-- OPEN_WIRE (R178): Open-wire condition held 10 ms sets or clears OPEN_WIRE on a DO or SAFE_PM channel. -/
  | openWire (c : ChanId) (set : Bool)
  /-- OFF_STATE_TEST (R178): After 10 ms off the channel applies its off-state test current. -/
  | offStateTest (c : ChanId)
  /-- NAMUR_LINE_FAULT (R179): A NAMUR current below or above the limits for 10 ms sets or clears OPEN_WIRE or SHORT. -/
  | namurLineFault (c : ChanId) (short : Bool) (set : Bool)
  /-- MISMATCH (R180): SENSED differing from COMMANDED for 1 ms sets MISMATCH; equal for 10 ms clears it. -/
  | mismatch (c : ChanId) (set : Bool)
  /-- LPLUS_LOW (R181): L+ below the low level for 1 ms sets LPLUS_LOW; above the clear level for 10 ms clears it. -/
  | lplusLow (c : ChanId) (set : Bool)
  /-- CONTROLLER_STOP (R181): L+ below the stop level stops the channel controller. -/
  | controllerStop (c : ChanId)
  /-- CONTROLLER_RESTART (R181): A restarted controller starts in OFF and the hub brings it back by channel restart. -/
  | controllerRestart (c : ChanId)
  /-- CONVERSION (R200): Every 100 µs an analogue channel converts and judges its input flags and readback conditions. -/
  | conversion (c : ChanId) (m : AnaIn)
  /-- OUTPUT_FAULT (R196): COMPLIANCE held for CH_FAULT_MS sets OUTPUT_FAULT and starts the failure behaviour. -/
  | outputFault (c : ChanId)
  /-- SETPOINT_UPDATE (R204): Every 10 µs a ramping AO_I setpoint moves one step toward its target. -/
  | setpointUpdate (c : ChanId)
  /-- GLIDE_PHASE_END (R205): A profile's delay, dwell or pulse time expires and the profile enters its next phase. -/
  | glidePhaseEnd (c : ChanId)
  /-- HIGH_Z_PAUSE_END (R189): The 1 ms high-impedance pause of a mode change ends. -/
  | highZPauseEnd (c : ChanId)
  /-- CHANNEL_READY (R189): The front end is configured for the new mode and the channel reports READY. -/
  | channelReady (c : ChanId) (selftestOk : Bool)
  /-- SWITCH_TEST (R260): A SAFE_PM channel tests one of its switches and locks out if it does not follow. -/
  | switchTest (c : ChanId) (mSwitch : Bool) (follows : Bool)
  /-- SLOT_SWITCH (R354): The hub selects the other firmware slot of a channel die whose version differs. -/
  | slotSwitch (c : ChanId)
  /-- SAFE_STOP (R246): A comparator mismatch, double-bit error, watchdog or failed self-test halts SA and SB. `seen` is what the
  detector has read: SB's value at the comparator, or how far CK_SAFE deviates in ppm. -/
  | safeStop (cause : SafeCause) (seen : Dword)
  /-- SAFE_CLOCK_CHECK (R246): Every 1 ms CK_SAFE is checked against CK_REF. -/
  | safeClockCheck (devPpm : Nat)
  /-- SPARE_LANE_TEST (R248): A test difference is injected into a spare compare lane at least every 100 ms. -/
  | spareLaneTest (detected : Bool)
  /-- SAFETY_SELFTEST (R248): The safety self-test ends after at most 30 ms, passing or entering SAFE_STOP. -/
  | safetySelftest (pass : Bool)
  /-- SAFETY_RUN (R250): SA and SB start a safety task's run when free, capturing SAFE_IN. -/
  | safetyRun (t : TaskId)
  /-- SAFE_WATCHDOG (R251): A safety run reaching SAFE_WD_US puts the subsystem in SAFE_STOP. -/
  | safeWatchdog
  /-- DISCREPANCY_FAULT (R256): A disagreement lasting T or longer latches FAULT in the pair. -/
  | discrepancyFault (k : Fin 24)
  /-- SHACIA_DATAGRAM (R243): A UDP datagram on port 5816 is passed to the safety subsystem or discarded. -/
  | shaciaDatagram (rx : PlantRx) (d : ShaciaDatagram)
  /-- SHACIA_FRAME (R263): A received Shacia safe frame is checked and accepted or discarded. By UDP, `peer` is its source and
  `bytes` its payload; on the ring, `bytes` is the frame from the KRIO header on and has no `peer`. -/
  | shaciaFrame (rx : ShaciaRx) (peer : Word) (bytes : List Byte)
  /-- CONN_TIMEOUT (R264): A connection's data age reaching CONN_WD_MS puts it in TIMEOUT. -/
  | connTimeout (c : Fin 64)
  /-- STATION_CYCLE_START (R217): At a station's cycle start the engine closes the cycle and builds and sends its frame. -/
  | stationCycleStart (st : StnId)
  /-- INPUT_FRAME (R219): A KRIO INPUT frame is checked and its words written and groups flipped. -/
  | inputFrame (f : RingFrame) (late : Bool)
  /-- BEACON (R221): Every 100 µs a beacon is sent and the ring judged OPEN or CLOSED. -/
  | beacon (arrived : Bool)
  /-- PORT_LINK_DOWN (R29): An Ethernet port loses its recovered clock or link. -/
  | portLinkDown (port : Fin 4)
  /-- PTP_SYNC (R230): Every 125 ms the ring grandmaster sends a Sync message. -/
  | ptpSync
  /-- PTP_MESSAGE (R231): A plant-side IEEE 1588 message is processed by the ordinary clock. -/
  | ptpMessage (port : PtpPort) (m : PtpMsg)
  /-- PPS_IN (R231): A PPS_IN pulse disciplines the plant-side clock. -/
  | ppsIn
  /-- PLANT_FRAME (R233): A plant frame that addresses no service, or exceeds the rate, is discarded and counted. -/
  | plantFrame (rx : PlantRx)
  /-- ARP (R232): The module answers an ARP request. -/
  | arp (rx : PlantRx) (target sender : Word)
  /-- ICMP_ECHO (R232): The module answers an ICMP echo request. -/
  | icmpEcho (rx : PlantRx) (target sender : Word) (payload : List Byte)
  /-- MODBUS_CONNECT (R398): A Modbus TCP connection is accepted, or refused as the ninth. -/
  | modbusConnect
  /-- MODBUS_IDLE (R398): A Modbus connection closes after 60 s without a request. -/
  | modbusIdle (conn : Fin 8)
  /-- READ_REGISTERS_03 (R241): Modbus function 0x03 reads registers of a unit space from one snapshot. -/
  | readRegisters03 (conn : MbRx) (unit : Byte) (start qty : Half)
  /-- READ_REGISTERS_04 (R241): Modbus function 0x04 reads registers of a unit space from one snapshot. -/
  | readRegisters04 (conn : MbRx) (unit : Byte) (start qty : Half)
  /-- WRITE_MULTIPLE_REGISTERS (R242): Modbus function 0x10 writes IW words with ENDPOINT 7 as one input batch. -/
  | writeMultipleRegisters (conn : MbRx) (unit : Byte) (start qty : Half) (regs : List Half)
  /-- READ_DEVICE_IDENTIFICATION (R241): Modbus function 0x2B/0x0E returns basic device identification. -/
  | readDeviceIdentification (conn : MbRx)
  /-- MODBUS_UNKNOWN_FUNCTION (R241): Any other Modbus function code is answered with exception 0x01. -/
  | modbusUnknownFunction (conn : MbRx) (fc : Byte)
  /-- IL_IN_READING (R275): An IL_IN reading takes effect after 2 µs in its band. -/
  | ilInReading (i10uA : Half)
  /-- IL_FAULT (R275): OPEN or SHORT for 1 ms sets IL_FAULT; RELEASED or HELD for 100 ms clears it. -/
  | ilFault (set : Bool)
  /-- ARBITRATION_END (R274): After 100 ms of ARBITRATING the module claims, enters SYNCING or enters HELD. -/
  | arbitrationEnd
  /-- CLAIM_WINDOW_END (R276): At the end of a 10 µs claim window the module holds the token or withdraws. -/
  | claimWindowEnd
  /-- OE_LOSS (R277): IL_IN reading HELD for 20 µs against a held token removes OE. -/
  | oeLoss
  /-- TOKEN_PATH_PULSE (R280): Every 10 s a READY standby raises IL_OUT for 5 µs to test the token path. -/
  | tokenPathPulse
  /-- HANDOVER_RELEASE (R291): The active module releases its token at the first edge with no task in PUBLISH. -/
  | handoverRelease
  /-- TRELEX_FRAME_CLOSE (R283): The sender closes a Trelex frame when full or 1 µs after its first record. -/
  | trelexFrameClose
  /-- TRELEX_RETRANSMIT (R283): A frame not acknowledged 20 µs after sending is retransmitted. -/
  | trelexRetransmit (seq : Word)
  /-- LANE_DOWN (R283): Lost block lock for 10 µs or 3 CRC errors in 1 ms takes a lane down. -/
  | laneDown (lane1 : Bool)
  /-- LANE_UP (R283): A lane is up again after 100 ms without fault. -/
  | laneUp (lane1 : Bool)
  /-- LINK_DOWN (R283): Both lanes down for 1 ms take the Trelex link down. -/
  | linkDown
  /-- WORDS (R285): A WORDS record updates the standby's replica input image. -/
  | words (f : FromPartner (List WordEntry))
  /-- REFRESH (R285): A REFRESH record ends a writer's refresh and flips its groups in the replica. -/
  | refresh (f : FromPartner (Fin 4)) (st : StnId)
  /-- MARK (R285): A MARK record starts the same activation in the standby. -/
  | mark (f : FromPartner TaskId) (kind : MarkKind) (act : Word)
  /-- READ (R285): A READ record supplies read results to the standby's activation. -/
  | readRecord (f : FromPartner ReadRec)
  /-- DELTA (R286): A DELTA record sets the standby's timer, station, connection and force state. -/
  | delta (f : FromPartner Byte) (act : Word) (entries : List DeltaEntry)
  /-- COMPARE (R288): A COMPARE record is checked against the standby's batch CRC. -/
  | compare (f : FromPartner CompareRec)
  /-- STATE (R294): A STATE record copies one page of state into the standby. -/
  | statePage (f : FromPartner Word) (page : List Byte)
  /-- REPORT (R282): A REPORT record delivers the standby's Report Card to the active module. -/
  | reportCard (f : FromPartner (List Word))
  /-- PARTNER (R282): A PARTNER record writes ENDPOINT 5 words into the receiver's IW through the Trelex queue. -/
  | partner (f : FromPartner (List WordEntry))
  /-- TRELEX_HELLO (R294): A CONTROL HELLO reports the partner's variant, strap, state, generation and digest. -/
  | trelexHello (f : FromPartner HelloMsg)
  /-- HELLO_TIMER (R294): Every 10 ms a module sends a CONTROL HELLO. -/
  | helloTimer
  /-- HANDOVER (R292): A CONTROL HANDOVER tells the standby the active is releasing. -/
  | handover (f : FromPartner Byte) (tbrd : Dword)
  /-- LOAD_CHECK (R46): A CONTROL LOAD_CHECK reports the partner's stage 2-6 result for a load or edit. -/
  | loadCheck (f : FromPartner Bool) (result : Byte) (digest : List Byte)
  /-- LOAD_COMMIT (R46): A CONTROL LOAD_COMMIT names the activation at which both modules enter stage 8. -/
  | loadCommit (f : FromPartner TaskId) (act : Word)
  /-- EDIT_AGREE (R166): A CONTROL EDIT_AGREE carries the agreed activation B of a pair edit. -/
  | editAgree (f : FromPartner TaskId) (b : Word)
  /-- TOKEN_PULSE (R280): A CONTROL TOKEN_PULSE announces the standby's next token pulse. -/
  | tokenPulse (f : FromPartner Word)
  /-- TOKEN_REPORT (R280): A CONTROL TOKEN_REPORT tells the standby whether its pulse was seen. -/
  | tokenReport (f : FromPartner Word) (seen : Bool)
  /-- BATCH_FETCH (R288): A CONTROL BATCH_FETCH asks the active for a kept batch after a mismatch. -/
  | batchFetch (f : FromPartner TaskId) (act : Word)
  /-- BATCH_DATA (R288): A CONTROL BATCH_DATA delivers batch entries to the standby. -/
  | batchData (f : FromPartner TaskId) (first : Half) (act : Word) (entries : List WordEntry)
  /-- CUT (R294): A CONTROL CUT gives the standby the timebase and calendar at the cut. -/
  | cut (f : FromPartner Dword) (clk : Dword)
  /-- RESYNC_REQUEST (R294): A CONTROL RESYNC_REQUEST asks the active to start resynchronisation. -/
  | resyncRequest (f : FromPartner Byte)
  /-- COPY_END (R294): A CONTROL COPY_END reports pages still to send and ends the final copy at 0. -/
  | copyEnd (f : FromPartner Word)
  /-- RESYNC_CUT (R295): At the first edge with no task running and at most 4 MB unsent the active makes the cut. -/
  | resyncCut
  /-- NO_CUT (R295): No cut edge within 10 s fails the resynchronisation and schedules a retry. -/
  | noCut
  /-- REPORT_CARD_TIMER (R282): At least every 100 ms the standby sends its Report Card. -/
  | reportCardTimer
  /-- IMAGE_CHECK_DONE (R403): Stages 2-6 of a load or edit complete, refusing or passing on to the partner or commit. -/
  | imageCheckDone
  /-- PARTNER_REFUSED (R46): A partner silent for 2 s refuses the load or edit. -/
  | partnerRefused
  /-- LOAD_STOP_DONE (R43): Every task has stopped in stage 8 and stages 9-14 of the load run. -/
  | loadStopDone (r : RegionTest)
  /-- REGION_SELFTEST_DONE (R52): The region restart self-test ends and the planes are loaded or the region stays faulted. -/
  | regionSelftestDone (r : RegionId) (pass : Bool)
  /-- REGION_LOAD_DONE (R52): Both planes are loaded and read back, state bits set from INIT and the region IDLE. -/
  | regionLoadDone (r : RegionId) (retries : Nat) (failed : Option (Bool × Fin 64))
  /-- EDIT_STORED (R154): The delta and STORED record are in flash and stage 16 starts. -/
  | editStored (ok : Bool)
  /-- EDIT_STAGED (R154): Shadow planes and tables are prepared and the edit waits for Recess. -/
  | editStaged
  /-- RECESS_START (R155): At the first edge with the task not running, Recess starts and the planes swap. -/
  | recessStart
  /-- RECESS_EXIT (R156): The exit edge switches tables and raises the generation. -/
  | recessExit
  /-- RECESS_TIMEOUT (R159): Recess not started within 30 s of stage 16 refuses the edit. -/
  | recessTimeout
  /-- APPLIED_RECORD (R160): The APPLIED record is marked valid and the edit ends. -/
  | appliedRecord
  /-- CONSOLIDATION_DONE (R160): The consolidated image is marked valid and older images and deltas are discarded. -/
  | consolidationDone
  /-- REFRESH_CHECK (R317): Every 10 s one flash sector is margin-checked and rewritten if weak. -/
  | refreshCheck (found : CheckFound)
  /-- OPTIME_UPDATE (R316): Every 10 ms the operating time in OPTIME is rewritten. -/
  | optimeUpdate
  /-- OPERATING_MINUTES (R316): Every 60 s of operating time DCNT1 is incremented. -/
  | operatingMinutes
  /-- DIARY_ENTRY (R324): A raised record is admitted and entered into the MRAM journal with the next SEQ. -/
  | diaryEntry
  /-- DIARY_DRAIN (R327): A journal record is written to flash and its slot freed. -/
  | diaryDrain
  /-- BUCKET_REFILL (R331): Each whole second of operating time adds one record to every Diary bucket. -/
  | bucketRefill
  /-- SUMMARY (R331): A pending count standing 60 s without admission is entered as a SUMMARY record. -/
  | summary (code : Half)
  /-- VERIFICATION_DONE (R357): Package verification ends, refusing the package or starting preparation. -/
  | verificationDone
  /-- PREPARATION_DONE (R360): The inactive bank and channel dies are prepared and the bank header written. -/
  | preparationDone (chanFail chanNoLplus : BitVec 48)
  /-- AUTO_CONFIRM (R365): After AUTO_CONFIRM_S seconds of trial with the conditions held the module confirms itself. -/
  | autoConfirm
  /-- SESSION_CLOSE (R234): The engineering station closes its TLS session, which ends the session and frees its write rights. -/
  | sessionClose (ses : SesId)
  /-- PORT_LINK_UP (R29): An Ethernet port regains its link at 1000BASE-T full duplex and its NET_RING link bit becomes 1.
  A port that has negotiated any other mode reports link down (R212). -/
  | portLinkUp (p : LinkUp)
  /-- LOCKOUT_END (R269): 600 s of operating time after a password lockout, the lockout ends and PW_LOCK clears. -/
  | lockoutEnd
  /-- RESYNC_RETRY (R295): 10 s after a failed resynchronisation the standby retries it. -/
  | resyncRetry
  /-- REPLAY_LAG_EXPIRY (R287): The standby's replay lag for an activation reaches 1 ms and the standby is disqualified with cause LAG. -/
  | replayLagExpiry (t : TaskId)
  /-- HELD_TO_ACTIVE (R274): A module in HELD whose IL_IN has read RELEASED for 100 ms leaves HELD for ACTIVE. -/
  | heldToActive
  /-- BROWN_OUT (R351): The backup domain voltage falls below 1.60 V and the brown-out latch is set. -/
  | brownOut
  /-- REFRESH_DONE (R318): A sector rewrite reaches DONE, reads return to the original sector, and the writes that were waiting proceed. -/
  | refreshDone
  /-- SECTOR_ERASE_DONE (R301): A flash sector erase of up to 1 s completes and the sector can be taken into use. -/
  | sectorEraseDone (sector : Fin 4096) (ok : Bool)
  /-- TIMER_SATURATION (R105): A timer's elapsed time reaches 2^48 − 1 µs, stops there, and SAT becomes 1. -/
  | timerSaturation (n : Fin 8192)
  /-- PPS_OUT (R231): At each whole second of the plant-side clock the module drives a pulse on PPS_OUT. -/
  | ppsOut
  deriving DecidableEq, Repr

end Sys2Proof
end

