-- ==== Sys2Proof/Config.lean ====
section
/-! DEFINITION. What the manual leaves open: constants without a value, so that no proof can lean on one. -/

namespace Sys2Proof.Config

/-- A value the manual calls undefined or does not state; the argument is State.free, which each use advances (log 3). -/
opaque freeWord : Nat → Word
/-- An open choice of yes or no, drawn in the same way (log 3). -/
opaque freeBool : Nat → Bool
/-- Phase of the timer bank's 1 µs tick against the module timebase, in ns (R405, R23). -/
opaque timerPhaseNs : Nat
/-- Whether the module's Ed25519 verification of (key, message, signature) succeeds (RFC 8032, R36; log 6). -/
opaque ed25519Verify : List Byte → List Byte → List Byte → Bool
/-- Whether a client certificate chains to the trust anchors given (R234; log 7). -/
opaque certAccepted : List Byte → List Byte → Bool
/-- The salted hash of a safety password (R269; the manual gives neither salt nor hash; log 8). -/
opaque passwordHash : List Byte → List Byte
/-- Hardware stepping HW_STEP of ID_DEVICE; the manual says that it starts at 0x01. -/
opaque hwStep : Byte
/-- Whether DER bytes of the outline of a certificate are an X.509 certificate (Table 9-15 cites the standard only; log 7). -/
opaque certWellFormed : List Byte → Bool
/-- The MAC address of a plant port (R232 gives none). -/
opaque macAddress : Bool → List Byte

/-- The pair protocol version that the module's firmware reports in its HELLO (R294; the manual gives no number). -/
opaque pairProtocol : Half
/-- The image bytes of a DIGEST that a standby receives in resynchronisation (Table 11-9, step 2; log 17). -/
opaque partnerImage : List Byte → Nat → List Byte
/-- The public update keys UKEY0–UKEY3 in its one-time fuses (R356). -/
opaque updateKey : Fin 4 → List Byte

/-- What a channel's reservoir holds above the 6 mJ that Table 8-2 guarantees, in µJ (R193; log 39). -/
opaque reservoirSpare : BitVec 15

end Sys2Proof.Config
end

