-- ==== Sys2Proof/Machine/State.lean ====
section
/-! DEFINITION. The state of the module as plain data: every register, memory, queue, counter and mode the manual gives
the block, one structure per unit, each with its value at reset as the field's default; the fault and refusal reasons;
the state after reset. Tables keyed by a number are sparse lists in one canonical form (see Ops): an unlisted key reads
as the default record of that table. -/

namespace Sys2Proof.Machine

/-- Sparse table: keys strictly rising, no entry equal to the default that an unlisted key reads as. -/
abbrev Tab (α : Type) := List (Nat × α)
/-- Byte memory; an unlisted byte reads 0 (Table 2-8: memory that no chunk covers is loaded as 0). -/
abbrev Memory := List Host.Cell

/-- A data word and its tag, stored and moved together (R14). -/
structure ImgWord where
  data : Word := 0
  tag  : Word := 0
  deriving DecidableEq, Repr

/-! ### Configuration image (chapter 02) -/

/-- Table 2-6. -/
structure TaskCfg where
  kind       : Byte := 0
  prio       : Byte := 0
  flags      : Half := 0
  period     : Word := 0
  trigger    : Word := 0
  watchdog   : Word := 0
  ovLimit    : Half := 0
  first      : Half := 0
  count      : Half := 0
  regionMask : Half := 0
  bbWords    : Half := 0
  engineMask : Word := 0
  deriving DecidableEq, Repr

/-- Table 2-7; `preds` holds the PRED_COUNT used entries. -/
structure LessonCfg where
  kind  : Byte := 0
  unit  : Byte := 0
  task  : Byte := 0
  entry : Word := 0
  preds : List Nat := []
  deriving DecidableEq, Repr

/-- Table 2-10: `out` is DIR, `num` the word number. -/
structure RouteCfg where
  out      : Bool := false
  num      : Nat := 0
  owner    : Byte := 0
  endpoint : Byte := 0
  group    : Half := 0
  flags    : Half := 0
  deriving DecidableEq, Repr

/-- Table 2-11. -/
structure TimerCfg where
  timer  : Nat := 0
  kind   : Byte := 0
  retain : Bool := false
  preset : Dword := 0
  owner  : Byte := 0
  deriving DecidableEq, Repr

/-- Table 4-14. -/
structure DescCfg where
  addr   : Word := 0
  size   : Word := 0
  typeId : Half := 0
  home   : Byte := 0
  owner  : Byte := 0
  layout : Half := 0
  flags  : Byte := 0
  deriving DecidableEq, Repr

/-- Table 2-8. -/
structure Chunk where
  target : Byte := 0
  addr   : Nat := 0
  bytes  : List Byte := []
  deriving DecidableEq, Repr

/-- Table 2-12. -/
structure SafetyProg where
  crc    : Word := 0
  params : List Byte := []
  code   : List Byte := []
  data   : List Byte := []
  deriving DecidableEq, Repr

/-- One configuration plane of a region: cell words by address block<<7 | cluster<<3 | cell, routing words by
block<<8 | slot (Tables 2-13, 2-15). -/
structure Plane where
  cells : Tab (BitVec 128) := []
  rws   : Tab (BitVec 64) := []
  deriving DecidableEq, Repr

/-- The contents of a full image, or of the generation that a delta creates (Table 2-4). -/
structure ImageCfg where
  loaded   : Bool := false
  pair     : Bool := false
  compare  : Word := 0
  chanWd   : Half := 0
  tasks    : List TaskCfg := []
  lessons  : List LessonCfg := []
  planes   : Tab Plane := []
  code     : List Chunk := []
  data     : List Chunk := []
  descs    : List DescCfg := []
  routes   : List RouteCfg := []
  timers   : List TimerCfg := []
  channels : List (List Byte) := []
  ring     : Option (List Byte) := none
  stations : List (List Byte) := []
  safety   : Option SafetyProg := none
  digest   : List Byte := []
  deriving DecidableEq, Repr

/-! ### Regions and timers (chapters 02, 03) -/

/-- RG_STATUS.STATE (Table 2-22). -/
inductive RegionState where
  | unused | idle | running | recess | stopped | loading | selftest | fault
  deriving DecidableEq, Repr

/-- What a region does for a restart (Table 2-24). -/
inductive RestartPhase where
  | none | stopping | selftest | loading
  deriving DecidableEq, Repr

/-- Region n: its status block (Table 2-21), planes, state bits with their parity, and the ports of the wave in progress. -/
structure RegionSt where
  st          : RegionState := .unused
  plane1      : Bool := false
  shadowReady : Bool := false
  gen         : Word := 0
  shadowGen   : Word := 0
  scrubPass   : Word := 0
  scrubCorr   : Word := 0
  fault       : Word := 0
  loadRetry   : Word := 0
  p0          : Plane := {}
  p1          : Plane := {}
  /-- Bits of the planes that stand upset until the scrubber corrects them (R55). -/
  flips       : List PlaneBit := []
  bits        : Tab Bool := []
  parity      : Tab Bool := []
  /-- Edge memories that the next wave primes (R66, R162). -/
  prime       : List Nat := []
  /-- Ports as loaded before clock 0 (Table 3-4). -/
  portIw      : Tab Word := []
  portBb      : Tab Word := []
  portTq      : List Nat := []
  wave        : Bool := false
  /-- Lesson of the wave in progress. -/
  waveLesson  : Nat := 0
  restart     : RestartPhase := .none
  /-- Corrections not yet reported, and when the last SCRUB_CORRECTED record was raised (R57). -/
  corrNew     : Word := 0
  corrAt      : Option Nat := none
  deriving DecidableEq, Repr

/-- TMRn (Table 3-5, Table 4-12). KIND 0 TON, 1 TOF, 2 TP, 3 RTO. -/
structure TimerSt where
  used    : Bool := false
  kind    : BitVec 2 := 0
  owner   : Byte := 0
  retain  : Bool := false
  fabric  : Bool := false
  preset  : BitVec 48 := 0
  elapsed : BitVec 48 := 0
  inp     : Bool := false
  rst     : Bool := false
  q       : Bool := false
  run     : Bool := false
  sat     : Bool := false
  deriving DecidableEq, Repr

/-! ### Tasks, queues and images (chapter 05) -/

/-- TT_STATUS.STATE (Table 5-5). -/
inductive TaskState where
  | unused | idle | rollCall | running | publish | recess | stopped | fault
  deriving DecidableEq, Repr

/-- A Lesson of the activation in progress. `ended`: END issued or end edge reached, marker not yet taken. -/
inductive LessonState where
  | waiting | ready | running | ended | done
  deriving DecidableEq, Repr

/-- Tn: its register block (Table 5-4) and the activation in progress. -/
structure TaskSt where
  st       : TaskState := .unused
  cause    : BitVec 4 := 0
  pending  : Bool := false
  simIn    : Bool := false
  actCnt   : Word := 0
  lastNs   : Word := 0
  maxNs    : Word := 0
  skipped  : Word := 0
  fault    : Word := 0
  consec   : Half := 0
  merged   : Half := 0
  foreign  : Word := 0
  /-- A stop with this cause takes effect at the end of the activation (R114, R126). -/
  stopReq  : Option (BitVec 4) := none
  /-- A region fault of the task takes effect at the end edge of its wave in progress (R79). -/
  waveStop : Bool := false
  /-- Module time at which the activation time starts, and of the first arrival held as pending (R113, R115). -/
  startNs  : Nat := 0
  pendNs   : Nat := 0
  /-- The Roll Call of the activation is requested and has not started (R120). -/
  wanted   : Bool := false
  snap     : Tab ImgWord := []
  mirror   : Tab ImgWord := []
  bb       : Tab Word := []
  lessons  : Tab LessonState := []
  /-- Hidden copies taken for the activation's batch, by QW number (R122). -/
  batch    : Tab ImgWord := []
  /-- A due time fell during this activation (R125). -/
  overran  : Bool := false
  /-- Order stamp of the last Roll Call (R226). -/
  rcStamp  : Nat := 0
  /-- Published since Dawn (R365). -/
  pubDawn  : Bool := false
  /-- Order stamp of the Roll Call or mirror capture of the last published activation (R226). -/
  pubStamp : Option Nat := none
  /-- Stopped by TASK_STOP (R365). -/
  byCmd    : Bool := false
  /-- The due time recognised last, in µs of TBRD (R117). -/
  lastDue  : Option Nat := none
  /-- The latch edge of the Roll Call in progress, and the rows that it has still to read: position in the set, row (R120). -/
  rcAt     : Nat := 0
  rows     : List (Nat × Nat) := []
  /-- The queue whose marker the activation's last Lesson gave (R139). -/
  lastQueue : Option Nat := none
  deriving DecidableEq, Repr

/-- One entry of a collector queue (R138). `tag` holds QUAL, HOLD and GLIDE as the producer gives them. -/
inductive QEntry where
  | qw (task : TaskId) (n : Nat) (data tag : Word)
  | bb (task : TaskId) (n : Nat) (data mask : Word)
  | marker (task : TaskId) (lesson : Nat)
  deriving DecidableEq, Repr

/-- An input batch closed in the host or Trelex queue (R139); `cmd` tells whose command waits for it. -/
inductive CmdOwner where
  | none | host | es
  | modbus (conn : Nat)
  deriving DecidableEq, Repr

structure InBatch where
  origin  : BitVec 4 := 6
  cmd     : CmdOwner := .none
  entries : List WordEntry := []
  deriving DecidableEq, Repr

/-- One step of the reflex lane (R74). -/
structure LaneStep where
  task    : TaskId
  words   : Tab ImgWord
  startNs : Nat
  endNs   : Nat
  stamp   : Nat
  act     : Word
  deriving DecidableEq, Repr

/-- A batch for the apply port (R139): a task's Publish, a task's GLIDE batch (R123), that of an edit (R165), an input batch of the
Trelex or the host queue. -/
inductive PortJob where
  | task (t : Nat)
  | glide (t : Nat)
  | edit (t : Nat)
  | input (trelex : Bool)
  deriving DecidableEq, Repr

/-- A force or simulation entry (R131, R132): data, and for a simulation its QUAL. -/
structure ForceEntry where
  out  : Bool := false
  num  : Nat := 0
  data : Word := 0
  qual : BitVec 2 := 0
  deriving DecidableEq, Repr

/-- A timer, frame or region image in a retain bank (Table 5-10). -/
inductive RetObj where
  | word (num : Nat) (owner : Byte) (w : ImgWord)
  | timer (num : Nat) (kind : BitVec 2) (elapsed : BitVec 48) (inp q run : Bool)
  | frame (fbi : Nat) (typeId layout : Half) (size : Word) (home : Byte) (bytes : List Byte)
  | region (r : Nat) (bits : Tab Bool)
  deriving DecidableEq, Repr

/-- A retain bank (Table 5-11); `crcOk` is the result of BODY_CRC over the body. -/
structure RetBank where
  valid  : Bool := false
  seq    : Word := 0
  gen    : Word := 0
  saved  : Nat := 0
  cycles : Nat := 0
  crcOk  : Bool := true
  objs   : List RetObj := []
  /-- RETAIN_FMT of the firmware that saved it (R366, R367). -/
  fmt    : Nat := 0
  deriving DecidableEq, Repr

/-- Tagged image memory, collector and retain status (Table 5-12). -/
structure ImgSt where
  iw         : Tab ImgWord := []
  qw         : Tab ImgWord := []
  forces     : List ForceEntry := []
  sims       : List ForceEntry := []
  foreignExt : Word := 0
  retStatus  : Word := 0
  retSaved   : Word := 0
  queues     : Tab (List QEntry) := []
  lane       : List LaneStep := []
  /-- The batch on the apply port, and the tasks whose GLIDE batch waits for it (R123, R139). -/
  port       : Option PortJob := none
  glides     : List Nat := []
  /-- The GLIDE batch of an edit that waits: its task and the words that the task no longer owns (R165). -/
  lostWords  : Option (Nat × List RouteCfg) := none
  /-- The module time at which the port took its batch, and that at which it ends the walk of a batch made void (R123). -/
  portNs     : Nat := 0
  voidEnd    : Nat := 0
  /-- Input and quality changes that no EVENT_ARRIVAL has taken yet, as TRIGGER words; reflex tasks whose trigger word has
  been written, with the module time of each write (R72, R113, R115). -/
  events     : List Word := []
  arrivals   : List (Nat × Nat) := []
  /-- Local words received in the coupler slot, hidden until its edge (R135). -/
  slotIn     : List (Nat × Word × BitVec 2) := []
  hostIn     : List InBatch := []
  trelexIn   : List InBatch := []
  bank0      : RetBank := {}
  bank1      : RetBank := {}
  /-- The last reset saved nothing (R145). -/
  noSave     : Bool := false
  /-- Output words published with GLIDE = 0 since Dawn (R210, R229). -/
  fresh      : List Nat := []
  deriving DecidableEq, Repr

/-! ### Function-block engines (chapter 04) -/

/-- What an engine does. -/
inductive EngRun where
  | free
  | lesson (task : TaskId) (index : Nat)
  | ended (task : TaskId) (index : Nat)
  deriving DecidableEq, Repr

/-- Engine e (24: the safety engines). Registers by number; W0 is never listed. -/
structure EngineSt where
  w        : Tab Dword := []
  pc       : Dword := 0
  run      : EngRun := .free
  iram     : Memory := []
  local_   : Memory := []
  /-- LOCAL words marked as failed; words of instruction SRAM that have failed and wait for the reload of their 1 KB page, both of
  64 bits, by index (R84, Table 4-1). -/
  eccWords : List Nat := []
  eccInstr : List Nat := []
  corrNew  : Word := 0
  corrAt   : Option Nat := none
  deriving DecidableEq, Repr

/-! ### Supervisor and host port (chapter 16) -/

/-- PHASE of SUP_STATUS; `reset` is the internal reset, in which the host port does not answer. -/
inductive Phase where
  | reset | run | dusk | recovery
  deriving DecidableEq, Repr

inductive Variant where
  | sh | b | s | h
  deriving DecidableEq, Repr

structure SupSt where
  phase       : Phase := .reset
  why         : BitVec 4 := 0
  code        : Byte := 0x01
  detail      : Byte := 0
  source      : Byte := 0xFF
  /-- OP_MS at which the supervisor latched the cause; a FULL_RESET record is due at Dawn (R329). -/
  causeOp     : Nat := 0
  /-- The recovery request is held for the next Dawn (R380). -/
  recoveryReq : Bool := false
  ps1         : Half := 0
  ps2         : Half := 0
  holdup      : Half := 0
  power       : Half := 0
  tempDie     : Half := 0
  tempBase    : Half := 0
  maxDie      : Half := 0
  maxBase     : Half := 0
  rides       : Word := 0
  dawnMs      : Half := 0
  btnIgnored  : Half := 0
  btnStuckN   : Half := 0
  ps1Ok       : Bool := false
  ps2Ok       : Bool := false
  riding      : Bool := false
  /-- The input is lost (R372), since this instant of the clock; the instant at which it last returned (R374). -/
  inputLost   : Bool := false
  lossNs      : Nat := 0
  backAt      : Option Nat := none
  /-- The instant at which SUP_HOLDUP_MV and SUP_POWER_MW were measured. -/
  holdAt      : Nat := 0
  /-- Dawn goes on until the pair has arbitrated (Table 16-8). -/
  dawning     : Bool := false
  button      : Bool := false
  stuck       : Bool := false
  thermWarn   : Bool := false
  dieWarn     : Bool := false
  /-- OP_MS of the input loss in progress. -/
  lossOp      : Nat := 0
  /-- Progress of the recovery pattern: 0 nothing, 1 first press closed, 2 released, 3 second press closed, 4 released (R380). -/
  pattern     : Nat := 0
  /-- The contact was open at the start of Dawn, so the recovery window counts (R380). -/
  patternOpen : Bool := false
  /-- The press in progress began in the first 3 s of Dawn (R378). -/
  pressWin    : Bool := false
  /-- The reset is held: die above 100 °C (R385), CK_REF lost (R29). -/
  thermHold   : Bool := false
  refLost     : Bool := false
  /-- RST_OUT_N is driven low (R377). -/
  rstOutLow   : Bool := true
  /-- Lines sent on the console: one for each Diary record of severity 2 or 3, the progress of each Dawn (R371). -/
  console     : Nat := 0
  /-- Logic power was absent since the last Dawn. -/
  powerLost   : Bool := true
  /-- A reset that a posted result has announced: its cause and the module time at which it begins (R396). -/
  resetAt     : Option (Byte × Nat) := none
  /-- A reset that saves is ordered, or Dusk runs: its cause, and the module time at which activations that have not
  published are aborted (R144). -/
  ending      : Option (Byte × Nat) := none
  deriving DecidableEq, Repr

/-- The shadows of one reading port (R338, R389, R393, R244) and the value its last read returned. -/
structure PortSh where
  rtag  : Word := 0
  rval  : List Word := []
  rdata : List Byte := []
  rtc1  : Word := 0
  ptpHi : Word := 0
  ptpNs : Word := 0
  last  : Word := 0
  deriving DecidableEq, Repr

/-- Tables 16-14 to 16-17 and the transfer buffer. -/
structure HostSt where
  irq        : Byte := 0
  irqEn      : Byte := 0
  sevMin     : BitVec 2 := 2
  err0       : Half := 0
  err2       : Half := 0
  /-- MSI-X vectors sent and not to be sent again until their bit is cleared (R390); vectors sent since Dawn. -/
  msixSent   : Byte := 0
  msixCount  : Nat := 0
  msixTable  : Memory := []
  snapPeriod : Byte := 0
  freeze     : Bool := false
  snapBusy   : Bool := false
  snapIw     : Tab ImgWord := []
  snapQw     : Tab ImgWord := []
  hideIw     : Tab ImgWord := []
  hideQw     : Tab ImgWord := []
  hideTb     : Word := 0
  snapSeq    : Word := 0
  snapTb     : Word := 0
  xfer       : Memory := []
  /-- The configuration space of the PCIe endpoint: the Command register and the BARs (R387, Table 16-11, log 23). -/
  command    : Half := 0
  bar0       : Word := 0
  bar2       : Dword := 0
  /-- The PCIe link to the host is up (R29, R383). -/
  pcieUp     : Bool := false
  /-- SPI_MISO was held low in the last frame, an invalid one (Table 16-12). -/
  spiLow     : Bool := false
  pcie       : PortSh := {}
  spi        : PortSh := {}
  es         : PortSh := {}
  deriving DecidableEq, Repr

/-- A command whose result is not yet posted. `r0`, `r1` collect the values of a HOST_WRITE; `fin` says that they are final. -/
structure CmdBusy where
  code : Half := 0
  tag  : Half := 0
  args : List Word := []
  r0   : Word := 0
  r1   : Word := 0
  fin  : Bool := false
  deriving DecidableEq, Repr

/-- A host or engineering upload held in staging (R394). -/
structure Upload where
  size : Nat := 0
  data : List Byte := []
  segs : Nat := 0
  /-- Module time in ns of its start or of its last segment. -/
  at_  : Nat := 0
  deriving DecidableEq, Repr

/-- The mailbox (Table 16-21). -/
structure MbSt where
  args   : Tab Word := []
  issued : Half := 0
  lost   : Bool := false
  busy   : Option CmdBusy := none
  asm    : List Byte := []
  rseq   : Half := 0
  rstat  : Byte := 0xFF
  rtag   : Word := 0
  rval   : List Word := []
  rdata  : List Byte := []
  upload : Option Upload := none
  deriving DecidableEq, Repr

/-! ### Clock and backup domain (chapter 14) -/

/-- Calendar value: date, time of day and the sub-second prescaler (0–32,767). -/
structure Cal where
  year  : Nat := 2000
  month : Nat := 1
  day   : Nat := 1
  hour  : Nat := 0
  min   : Nat := 0
  sec   : Nat := 0
  deriving DecidableEq, Repr

structure RtcSt where
  cal       : Cal := {}
  prescaler : Nat := 0
  /-- Phase of CK_RTC for the tick, in units of ns × 32,768, below 10^9 (log 2). -/
  subNs     : Nat := 0
  summer    : Bool := false
  valid     : Bool := false
  set0      : Word := 0
  set1      : Word := 0
  /-- The commit register, while COMMIT_PENDING (R339): the value and SUMMER. -/
  commit    : Option (Cal × Bool) := none
  /-- The pending commit is a synchronisation's: no command's RESULT hangs on it (R343). -/
  syncing   : Bool := false
  /-- The plant-side second at whose start the module commits (R343). -/
  syncAt    : Option Nat := none
  /-- The pending summer-time shift: true for SUMMER_ADD (R344). -/
  shift     : Option Bool := none
  result    : BitVec 4 := 0
  clkFail   : Bool := false
  wakeFail  : Bool := false
  alm0      : Bool := false
  alm1      : Bool := false
  bkpLost   : Bool := true
  utcOfs    : Half := 0
  sync      : BitVec 2 := 0
  almTime0  : Word := 0
  almCtrl0  : Byte := 0
  almTime1  : Word := 0
  almCtrl1  : Byte := 0
  vbat      : Half := 0
  vbatLow   : Bool := false
  pwronReq  : Bool := false
  brownOut  : Bool := false
  canaryOk  : Bool := true
  deriving DecidableEq, Repr

/-! ### Non-volatile storage (chapter 12) -/

/-- A last word, VALID, as it reads under the normal reference, PV and EV (R305). -/
structure Mark where
  normal : Word := 0x0000A55A
  pv     : Word := 0x0000A55A
  ev     : Word := 0x0000A55A
  deriving DecidableEq, Repr

/-- Table 12-4. -/
structure SectorHead where
  magic  : Word := 0x53435431
  area   : Byte := 0
  erases : Word := 0
  sseq   : Word := 0
  crc    : Word := 0
  valid  : Mark := {}
  deriving DecidableEq, Repr

/-- Table 12-5. -/
structure PsRec where
  magic : Word := 0x50535231
  page  : Nat := 0
  off   : Byte := 0
  len   : Nat := 0
  seq   : Nat := 0
  crc   : Word := 0
  hcrc  : Word := 0
  data  : List Byte := []
  valid : Mark := {}
  deriving DecidableEq, Repr

/-- Table 12-6; `prog` is how many BITMAP bits are programmed. -/
structure DcRec where
  magic   : Word := 0x44434E31
  counter : Nat := 0
  gen     : Word := 0
  base    : Nat := 0
  hcrc    : Word := 0
  valid   : Mark := {}
  prog    : Nat := 0
  deriving DecidableEq, Repr

/-- A sector of a log area (R301): erased, in use with its records, under erase, or given up (R302). -/
inductive SecState where
  | erased | used | erasing | lost
  deriving DecidableEq, Repr

structure LogSector (α : Type) where
  st   : SecState := .erased
  head : Option SectorHead := none
  recs : List α := []
  deriving DecidableEq, Repr

/-- A log area: its sectors, the one open for records, and the next SECTOR_SEQ. -/
structure LogArea (α : Type) where
  secs   : Tab (LogSector α) := []
  open_  : Nat := 0
  secSeq : Word := 0
  deriving DecidableEq, Repr

/-- REFRESH_JOURNAL (R318). -/
inductive RefreshSt where
  | copied | erased
  deriving DecidableEq, Repr

structure StorSt where
  ready       : Bool := false
  ps          : LogArea PsRec := {}
  psSeq       : Nat := 0
  dc          : LogArea DcRec := {}
  /-- DCNT_SHADOW, rebuilt from flash at Dawn (R312). -/
  shadow      : Tab Nat := []
  /-- WEAR: erase count of each of the 4,096 flash sectors. -/
  wear        : Tab Nat := []
  /-- REMAP in force: failing sector and its replacement; its two copies (none: not valid) and whether copy 1 is the next one
  written (R302). -/
  remap       : List (Nat × Nat) := []
  remap0      : Option (List (Nat × Nat)) := none
  remap1      : Option (List (Nat × Nat)) := none
  remapNext1  : Bool := false
  /-- Physical sectors whose next program fails its verify, and those retired without a replacement (R302). -/
  worn        : List Nat := []
  retired     : List Nat := []
  /-- Refresh: sector under rewrite with its spare and journal state; the oldest-check pointer; check times. -/
  refresh     : Option (Nat × Nat × RefreshSt) := none
  nextCheck   : Nat := 0
  checkedMs   : Tab Nat := []
  refreshPass : Word := 0
  refreshed   : Word := 0
  psFallback  : Bool := false
  dawnRepair  : Bool := false
  /-- OPTIME as last rewritten, ms, and whether its complement and CRC check (R316). -/
  optime      : Nat := 0
  optimeOk    : Bool := true
  /-- Rate limits (R310, R315): times of the last 200 page writes and 500 increments, newest first. -/
  psTimes     : List Nat := []
  dcTimes     : List Nat := []
  /-- Sectors under erase (R301, R320), and those whose erase a Dusk or a reset abandoned (R319). -/
  erasing     : List Nat := []
  abandoned   : List Nat := []
  /-- Staging: sectors in use out of 1,024, and the sector that is taken next (log 29). -/
  stagingUsed : Nat := 0
  stagingNext : Nat := 0
  deriving DecidableEq, Repr

/-! ### The Diary (chapter 13) -/

/-- A record as raised by a subsystem, before it is entered. -/
structure Raised where
  code     : Half := 0
  inst     : Half := 0xFFFF
  detail   : List Byte := []
  late     : Bool := false
  deriving DecidableEq, Repr

/-- Table 13-1. -/
structure DRec where
  seq    : Word := 0
  code   : Half := 0
  flags  : Byte := 0
  opMs   : Nat := 0
  cycles : Nat := 0
  inst   : Half := 0
  count  : Half := 1
  utcMs  : Nat := 0
  detail : List Byte := []
  deriving DecidableEq, Repr

/-- Bucket and pending count of a code (R331): bucket used up to 64 (so 0 is full), pending, and OP_MS since when the pending
count stands above 0. -/
structure Bucket where
  spent   : Nat := 0
  pending : Nat := 0
  since   : Nat := 0
  deriving DecidableEq, Repr

/-- A copy of the journal's control block (R324); `valid`: MAGIC, CRC-32C and VALID are right. -/
structure JournalCtl where
  nextSeq   : Word := 0
  drainSeq  : Word := 0
  writeSlot : Nat := 0
  update    : Word := 0
  valid     : Bool := false
  deriving DecidableEq, Repr

/-- A reader of the Diary (R332–R334): its snapshot, request and window. -/
structure DiaReader where
  snap    : Option (Word × Word) := none
  /-- The snapshot was taken before the first record was entered: no SEQ lies in it. -/
  empty   : Bool := false
  cursor  : Word := 0
  result  : BitVec 3 := 0
  gap     : Half := 0
  record  : Option DRec := none
  request : Option Word := none
  deriving DecidableEq, Repr

structure DiarySt where
  raised     : List Raised := []
  /-- Whole seconds of operating time for which the buckets have gained a record (R331). -/
  refillS    : Nat := 0
  journal    : List DRec := []
  /-- The control block in force and its two copies; WRITE_SLOT counts 0–8,189 (R324). -/
  nextSeq    : Word := 0
  drainSeq   : Word := 0
  writeSlot  : Nat := 0
  ctl0       : JournalCtl := {}
  ctl1       : JournalCtl := {}
  /-- The DIARY area by sector: its slots in order; a voided slot holds no record (R328). -/
  ring       : Tab (List (Option DRec)) := []
  head       : Nat := 0
  readySec   : Nat := 1
  ready      : Bool := false
  buckets    : Tab Bucket := []
  dropped    : Word := 0
  suppressed : Word := 0
  erased     : Word := 0
  /-- Records dropped since the last RECORDS_LOST record, and OP_MS of the first and last of them. -/
  lost       : Nat := 0
  lostFirst  : Nat := 0
  lostLast   : Nat := 0
  fill       : Bool := false
  host       : DiaReader := {}
  es         : DiaReader := {}
  deriving DecidableEq, Repr

/-! ### Field channels (chapters 07, 08) -/

/-- CH_STATE.STATE (Table 7-15). -/
inductive ChPhase where
  | off | starting | ready | running | holding | gliding | stopped | lost
  deriving DecidableEq, Repr

/-- CH_GLIDE_STATE.PHASE (Table 8-8). -/
inductive GlidePhase where
  | idle | delay | ramp | dwell | end_ | pulse | resume
  deriving DecidableEq, Repr

/-- A firmware slot of a channel die (R354): its contents, up to 256 KB, and its version. -/
structure FwSlot where
  ver  : Half := 0
  code : List Byte := []
  deriving DecidableEq, Repr

/-- The channel die: its controller, front end, stored record and diagnostics. -/
structure DieSt where
  st        : ChPhase := .off
  mode      : Byte := 0
  modeStat  : BitVec 4 := 0
  /-- The stored record and its CRC-32C (Table 7-9). -/
  record    : List Byte := []
  crc       : Word := 0
  /-- CONFIG collection: bytes so far and the next CHUNK. -/
  collect   : List Byte := []
  chunk     : Nat := 0
  /-- L+ at or above the controller stop level. -/
  powered   : Bool := true
  /-- The controller's clock has failed (R29). -/
  clkFail   : Bool := false
  highZ     : Bool := false
  /-- A stored record waits for the front end to be configured; the 1 ms pause of a mode change has ended. -/
  stored    : Bool := false
  pauseDone : Bool := false
  /-- The microsecond counter: TIME as loaded, and the module time of that slot start (R173). -/
  time      : Half := 0
  timeAt    : Nat := 0
  accepted  : Bool := false
  edgeCount : Byte := 0
  lastEdge  : Half := 0
  count     : Word := 0
  gate      : Bool := false
  rstBit    : Bool := false
  /-- COMMANDED: the state that a digital output applies. -/
  applied   : Bool := false
  /-- Conditions that hold, in the bits of CH_DIAG_NOW (bit 0 unused here). -/
  live      : BitVec 12 := 0
  limiting  : Bool := false
  /-- A switch is open after thermal shutdown; it has cooled; a DATA field has commanded off since. -/
  tripped   : Bool := false
  cooled    : Bool := false
  offSeen   : Bool := false
  testing   : Bool := false
  /-- Test lockout, and whether the M switch is the one that did not follow (R260). -/
  lockout   : Bool := false
  lockM     : Bool := false
  forced    : Bool := false
  /-- Analogue values: setpoint in 1/100 nA, the rest in nA or µV. `settled`: converted since the channel start. -/
  settled   : Bool := false
  setpoint  : Int := 0
  command   : Int := 0
  value     : Int := 0
  attained  : Int := 0
  clamped   : Bool := false
  /-- The failure behaviour of R196 is in force. -/
  failing   : Bool := false
  /-- Conversions in a row with and without each analogue condition, by bit (R200). -/
  onRun     : Tab Nat := []
  offRun    : Tab Nat := []
  loopV     : Half := 0
  supply    : Half := 0
  /-- Reservoir energy in tenths of a µJ. -/
  reservoir : Nat := 0
  power     : Half := 0
  /-- The Glide profile: last trigger, phase, segment, pulses left, the record it runs (R203), STOP received. -/
  trigger   : BitVec 4 := 0
  phase     : GlidePhase := .idle
  seg       : Nat := 0
  pulses    : Nat := 0
  profile   : List Byte := []
  stopping  : Bool := false
  ovlCount  : Half := 0
  wdCount   : Half := 0
  glideCnt  : Half := 0
  complCnt  : Half := 0
  auxId     : BitVec 4 := 0
  echo      : Byte := 0
  crcErrs   : Half := 0
  /-- Watchdog time in force in ms, when the last valid field came on the die's own clock, and whether the watchdog has expired
  since (R187). -/
  wdMs      : Nat := 0
  wdAt      : Nat := 0
  wdOut     : Bool := false
  /-- Conversions for which COMPLIANCE has been set without a break, gliding and holding left out (R196). -/
  faultRun  : Nat := 0
  /-- The firmware slots S0 and S1 and the slot selected (R354); 8 bytes of firmware received and not yet acknowledged (R361). -/
  fw0       : FwSlot := {}
  fw1       : FwSlot := {}
  slot1     : Bool := false
  service   : List Byte := []
  deriving DecidableEq, Repr

/-- What the hub sends a channel (Table 7-9). -/
inductive OutKind where
  | data | stop | config
  deriving DecidableEq, Repr

structure OutField where
  kind  : OutKind := .data
  chunk : Nat := 0
  seq   : Byte := 0
  time  : Half := 0
  data  : Word := 0
  tag   : Word := 0
  /-- Module time of the outbound latch (R173). -/
  at_   : Nat := 0
  deriving DecidableEq, Repr

/-- Steps of a channel restart at the hub (Table 2-25). -/
inductive ChRestart where
  | none | stopping | config | starting
  deriving DecidableEq, Repr

/-- The programming of a die's firmware slot over service fields (R361): bytes still to be sent, the version they make, whether
the die then switches to the slot (R354), and whether records wait for it. -/
structure FwJob where
  left   : List Byte := []
  ver    : Half := 0
  switch : Bool := false
  hold   : Bool := false
  deriving DecidableEq, Repr

/-- CHn: the hub's side and the die. -/
structure ChanSt where
  die      : DieSt := {}
  out      : OutField := {}
  restart  : ChRestart := .none
  /-- Next chunk to send, and the record that the restart sends. -/
  chunk    : Nat := 0
  newRec   : List Byte := []
  /-- Slots in a row without a valid inbound field; LOST. -/
  silent   : Nat := 0
  /-- A field of this slot has come, valid or not (R135). -/
  heard    : Bool := false
  lost     : Bool := false
  linkErr  : Word := 0
  /-- As last received. -/
  state    : BitVec 4 := 0
  modeStat : BitVec 4 := 0
  mode     : Byte := 0
  now      : BitVec 12 := 0
  aux      : Tab Half := []
  spUa     : Half := 0
  /-- CH_DIAG. -/
  diag     : BitVec 12 := 0
  /-- R183: times set since the last record, and OP_MS of that record, by condition bit. -/
  times    : Tab Nat := []
  lastRec  : Tab Nat := []
  /-- The record comparison after Dawn (R209): 1 waits for AUX items 3 and 4, 2 for item 4, 3 for item 3; 0 none. -/
  check    : Nat := 0
  fw       : Option FwJob := none
  deriving DecidableEq, Repr

/-! ### Ring, plant network, engineering service (chapter 09) -/

/-- NET_STN.STATE (Table 9-7). -/
inductive StnPhase where
  | none | starting | configuring | running | hold | lost
  deriving DecidableEq, Repr

structure StnSt where
  st       : StnPhase := .none
  remote   : BitVec 4 := 0
  mismatch : Bool := false
  missed   : BitVec 7 := 0
  losses   : Half := 0
  /-- SEQ of the last frame built; a frame of this cycle is out; a valid INPUT has answered it. -/
  seq      : Half := 0
  out      : Bool := false
  answered : Bool := false
  /-- Consecutive cycles with a valid INPUT frame in STARTING or LOST (R225). -/
  good     : Nat := 0
  cfgDue   : Bool := false
  /-- Output words not yet released, and the order stamp of the return (R226). -/
  held     : List Nat := []
  retStamp : Nat := 0
  /-- The last frame built, and whether it went out of both ports. -/
  frame    : List Byte := []
  both     : Bool := false
  /-- The record (none: none) that stays in force until the first cycle after the exit edge of an edit that changed it (R149). -/
  old      : Option (Option (List Byte)) := none
  /-- TBRD of the last cycle start (R217). -/
  cycleAt  : Option Nat := none
  deriving DecidableEq, Repr

/-- A message that the ring's grandmaster has sent: its domain, its sequence number and the time that it carries (R230). -/
structure PtpSent where
  domain : Byte := 0
  seq    : Half := 0
  ns     : Nat := 0
  deriving DecidableEq, Repr

/-- A Modbus TCP connection: its port, open, its last response, a write that waits for its batch. -/
structure MbConn where
  opened : Bool := false
  /-- Module time in ns of its start or of its last request (R398). -/
  lastNs : Nat := 0
  resp   : List Byte := []
  wait   : Bool := false
  start  : Half := 0
  qty    : Half := 0
  deriving DecidableEq, Repr

structure NetSt where
  /-- P1–P4 link up. -/
  links      : BitVec 4 := 0
  ring       : BitVec 4 := 0
  /-- Beacons in a row that failed to return, and that returned. -/
  beaconMiss : Nat := 0
  beaconOk   : Nat := 0
  rtt        : Word := 0
  breaks     : Word := 0
  krioDisc   : Word := 0
  late       : Word := 0
  plantDisc  : Word := 0
  shaciaDisc : Word := 0
  mbReq      : Word := 0
  mbRefused  : Word := 0
  stns       : Tab StnSt := []
  /-- GLIDE_ALL frames sent, also by the reset that has cleared the rest; the engine sends nothing more (R228). -/
  glideAll   : Nat := 0
  silent     : Bool := false
  /-- The last GLIDE_ALL or BEACON frame. -/
  sent       : List Byte := []
  /-- HSR: supervision frames sent, and the nodes that supervision frames have named (R222). -/
  supSent    : Nat := 0
  nodes      : List (BitVec 48) := []
  /-- IEEE 1588 on the ring: Sync messages sent; the last Sync, its Follow_Up and the last Delay_Resp (R230). -/
  syncs      : Nat := 0
  sync       : Option PtpSent := none
  followUp   : Option PtpSent := none
  delayResp  : Option PtpSent := none
  /-- The plant-side port and clock. -/
  ptpState   : BitVec 4 := 0
  ptpLocked  : Bool := false
  ppsUse     : Bool := false
  ptpOffset  : Word := 0
  plantNs    : Nat := 0
  ppsOut     : Nat := 0
  /-- The whole second of the plant-side clock that the last pulse marked (R231). -/
  ppsAt      : Option Nat := none
  /-- P3 and P4 settings in force since Dawn (R232): address, mask and gateway, 12 bytes each; PRP. -/
  p3         : List Byte := []
  p4         : List Byte := []
  prp        : Bool := false
  /-- The last ARP or ICMP answer: port 4, bytes; a PRP node sends it on both ports. -/
  reply      : Option (Bool × List Byte) := none
  /-- When P3 and P4 accepted their frames of the last 1 ms, newest first (R233). -/
  rate3      : List Nat := []
  rate4      : List Nat := []
  conns      : Tab MbConn := []
  deriving DecidableEq, Repr

/-- An engineering session (R234–R236, R240). -/
structure SesSt where
  opened  : Bool := false
  /-- Module time in ns of its last request (R236). -/
  lastNs  : Nat := 0
  hello   : Bool := false
  write   : Bool := false
  notify  : Bool := false
  bits    : Byte := 0
  /-- When its last NOTIFY went out, in ns of `clockNs` (R240). -/
  noteNs  : Option Nat := none
  cert    : List Byte := []
  /-- Requests not yet answered, oldest first, with their OP: the first is in progress (R235). -/
  queue   : List (Half × EsReq) := []
  /-- Messages not yet read; none: one whose LENGTH closes the session (R235). -/
  stream  : List (Option (Half × EsReq)) := []
  /-- The last message sent and how many were sent. -/
  resp    : List Byte := []
  sent    : Nat := 0
  deriving DecidableEq, Repr

structure EsSt where
  s0   : SesSt := {}
  s1   : SesSt := {}
  /-- The EXEC command in progress and its session (none: closed since); the session whose SAFETY_RESTART waits for the
  self-test. -/
  busy : Option (CmdBusy × Option SesId) := none
  safeRestart : Option SesId := none
  deriving DecidableEq, Repr

/-! ### Configuration controller (chapters 02, 06) -/

/-- Carry-over map (Tables 6-2 to 6-6). -/
structure CopyEntry where
  oldOff : Nat := 0
  conv   : Byte := 0
  newOff : Nat := 0
  count  : Nat := 0
  deriving DecidableEq, Repr

structure InstEntry where
  old    : Nat := 0
  new_   : Nat := 0
  copies : List CopyEntry := []
  deriving DecidableEq, Repr

structure CarryMap where
  restart : Bool := false
  timers  : List (Nat × Nat) := []
  states  : List (Nat × Nat) := []
  insts   : List InstEntry := []
  deriving DecidableEq, Repr

/-- A checked delta: the generation it creates and what it holds. -/
structure DeltaCfg where
  task     : Nat := 0
  new_     : ImageCfg := {}
  map      : CarryMap := {}
  /-- Blocks (region, block) that its section 0x04 changes; sections 0x07 and 0x09 present. -/
  blocks   : List (Nat × Nat) := []
  has4     : Bool := false
  has7     : Bool := false
  has9     : Bool := false
  has12    : Bool := false
  code     : List Chunk := []
  data     : List Chunk := []
  deriving DecidableEq, Repr

/-- Where a load or edit stands between stage 1 and its end. -/
inductive LoadPhase where
  | checking | partner | commit | stopping | storing | staging | waiting | recess | recording
  deriving DecidableEq, Repr

structure LoadJob where
  phase   : LoadPhase := .checking
  /-- Module time in ns when the wait in progress began: for the partner's stages 2–6 (R46), later for Recess (R159). -/
  staged  : Nat := 0
  bytes   : List Byte := []
  delta   : Bool := false
  new_    : ImageCfg := {}
  edit    : DeltaCfg := {}
  /-- The task and activation of the commit (R46), or the edited task and B of an edit in a pair (R166). -/
  commit  : Option (Nat × Word) := none
  /-- The image comes from the active module in resynchronisation, with its generation (R34). -/
  resync  : Option Word := none
  /-- First 16 bytes of the SHA-256 of the client certificate of the session whose IMG_END began the load; empty when no session
  did (Table 10-15). -/
  session : List Byte := []
  /-- Recess (R155): the image before it, the task's state at its start, its start, the old frames as they stood then by
  instance number (R164), and the first activation number that runs the new generation. -/
  old     : ImageCfg := {}
  was     : TaskState := .unused
  startNs : Nat := 0
  frames  : List (Nat × List Byte) := []
  act     : Word := 0
  /-- An activation was requested before Recess started (R158). -/
  wanted  : Bool := false
  deriving DecidableEq, Repr

/-- An edit record in staging (Table 6-10). KIND 1 STORED, 2 APPLIED, 3 DISCARDED. -/
structure EditRec where
  kind   : Nat := 1
  gen    : Word := 0
  base   : Word := 0
  digest : List Byte := []
  task   : Nat := 0
  pair   : Bool := false
  act    : Word := 0
  cycles : Nat := 0
  /-- Staging sectors that a stored delta fills. -/
  sectors : Nat := 0
  deriving DecidableEq, Repr

structure CfgSt where
  section_ : Byte := 0
  stage    : Byte := 0
  status   : Byte := 0
  detail   : Word := 0
  digest   : Word := 0
  job      : Option LoadJob := none
  /-- The image of the newest activation record in flash with its generation, and the last applied edit on it: what
  Dawn runs (R44, R167). -/
  flash    : ImageCfg := {}
  flashGen : Word := 0
  edits    : List EditRec := []
  /-- The last applied edit and its map, for R168; a consolidation is under way (R160). -/
  lastEdit : Option (DeltaCfg × Word) := none
  lastBase : ImageCfg := {}
  consolid : Bool := false
  deriving DecidableEq, Repr

/-! ### Safety subsystem (chapter 10) -/

/-- SAFE_STATUS.STATE (Table 10-9). -/
inductive SafePhase where
  | off | selftest | run | stop | loading
  deriving DecidableEq, Repr

/-- SAFE_PAIR.STATE (Table 10-10). -/
inductive PairPhase where
  | unused | starting | permit | demand | discrepant | fault
  deriving DecidableEq, Repr

/-- The monitor's view of one channel of a pair: accepted state, EDGE_COUNT, unfit (R255), µs at which its last field came. -/
structure PairCh where
  v     : Bool := false
  edges : Byte := 0
  unfit : Bool := true
  at_   : Nat := 0
  /-- A field has come since the pair started. -/
  seen  : Bool := false
  deriving DecidableEq, Repr

structure SafePair where
  used  : Bool := false
  task  : Nat := 0
  tMs   : Nat := 0
  st    : PairPhase := .unused
  safe  : Bool := false
  lastMs : Half := 0
  nc    : PairCh := {}
  no    : PairCh := {}
  /-- Slots in a row with both fields valid while starting (R258). -/
  slots : Nat := 0
  /-- Stamp in µs at which the disagreement in progress began. -/
  since : Option Nat := none
  /-- PAIR_CTRL.ACK at the last Publish. -/
  ack   : Bool := false
  deriving DecidableEq, Repr

/-- SAFE_CONN.STATE (Table 10-11). -/
inductive ConnPhase where
  | unused | starting | run | timeout | ackWait
  deriving DecidableEq, Repr

structure SafeConn where
  used    : Bool := false
  task    : Nat := 0
  id      : Nat := 0
  resp    : Bool := false
  udp     : Bool := false
  peer    : Nat := 0
  key     : Word := 0
  wdMs    : Nat := 0
  txN     : Nat := 0
  rxN     : Nat := 0
  ackReq  : Bool := false
  peerId  : Word := 0
  st      : ConnPhase := .unused
  disc    : Half := 0
  txSeq   : Nat := 0
  rxSeq   : Nat := 0
  /-- The 16 frames sent last, newest first: SEQ and sending time in µs of the safety timebase. -/
  sent    : List (Nat × Nat) := []
  /-- Sending time of the frame that the last accepted frame echoes (R264). -/
  echoAt  : Option Nat := none
  rx      : List Word := []
  peerFs  : Bool := false
  /-- Published by the connection's task: FAIL_SAFE, ACK, TX_VALUE. -/
  fs      : Bool := false
  ack     : Bool := false
  tx      : List Word := []
  /-- The last safe frame, and what carries it on the ring (Table 9-3). -/
  frame   : List Byte := []
  wire    : List Byte := []
  deriving DecidableEq, Repr

/-- Table 10-15. -/
structure LogRec where
  seq     : Word := 0
  kind    : Byte := 0
  crc     : Word := 0
  ver     : Word := 0
  value   : Word := 0
  utc     : Nat := 0
  opMs    : Nat := 0
  cycles  : Nat := 0
  session : List Byte := []
  deriving DecidableEq, Repr

structure SafeSt where
  st       : SafePhase := .off
  cause    : BitVec 4 := 0
  failPc   : Word := 0
  runMax   : Word := 0
  accSeal  : Option (Word × Word) := none
  /-- Safety timebase: module time in ns at the last self-test. -/
  tbBase   : Nat := 0
  runStart : Nat := 0
  safeIn   : Memory := []
  safeOut  : Memory := []
  pairs    : Tab SafePair := []
  conns    : Tab SafeConn := []
  /-- Datagrams that R243 has passed to the subsystem. -/
  inbox    : List (Word × List Byte) := []
  log      : List LogRec := []
  logSeq   : Word := 0
  /-- Records that wait for the end of a rewrite of their sector (R318); their LOG_SEQ comes with the write. -/
  logWait  : List LogRec := []
  /-- Consecutive wrong passwords, and OP_MS at which a lockout ends. -/
  wrong    : Nat := 0
  lockEnd  : Option Nat := none
  deriving DecidableEq, Repr

/-! ### Hot-standby pair (chapter 11) -/

/-- RED_STATUS.STATE (Table 11-1). -/
inductive RedPhase where
  | single | arbitrating | active | held | syncing | comparing | ready | disqualified
  deriving DecidableEq, Repr

/-- RED_STATUS.IL_IN. -/
inductive IlRead where
  | open_ | released | held | short
  deriving DecidableEq, Repr

/-- A batch kept for comparison: activation, stop cause, entries in routing order (R288). -/
structure KeptBatch where
  task    : Nat := 0
  act     : Word := 0
  cause   : Byte := 0
  entries : List (Nat × ImgWord) := []
  deriving DecidableEq, Repr

/-- A Trelex frame in the retransmission buffer. -/
structure SentFrame where
  seq   : Word := 0
  bytes : List Byte := []
  /-- The lane it went out on last, and when. -/
  lane1 : Bool := false
  at_   : Nat := 0
  deriving DecidableEq, Repr

/-- A record of a frame of the partner, by its content (Tables 11-6, 11-18). -/
inductive PartnerRec where
  | words (es : List WordEntry)
  | refresh (writer : Fin 4) (st : StnId)
  | mark (t : TaskId) (kind : MarkKind) (act : Word)
  | read (r : ReadRec)
  | delta (entries : List DeltaEntry)
  | compare (r : CompareRec)
  | statePage (addr : Word) (page : List Byte)
  | report (card : List Word)
  | partner (es : List WordEntry)
  | hello (m : HelloMsg)
  | handover (why : Byte)
  | loadCheck (delta : Bool) (result : Byte) (digest : List Byte)
  | loadCommit (t : TaskId) (act : Word)
  | editAgree (t : TaskId) (b : Word)
  | tokenPulse (n : Word)
  | tokenReport (seen : Bool)
  | batchFetch (t : TaskId) (act : Word)
  | batchData (t : TaskId) (first : Half) (act : Word) (es : List WordEntry)
  | cut (tbrd clk : Dword)
  | copyEnd (pages : Word)
  | resyncRequest (cause : Byte)
  deriving DecidableEq, Repr

/-- A MARK that waits for the task's activation in progress to end: the words as captured at its place in the stream. -/
structure MarkWait where
  task   : TaskId
  reflex : Bool := false
  act    : Word := 0
  words  : Tab ImgWord := []
  deriving DecidableEq, Repr

structure RedSt where
  st        : RedPhase := .single
  /-- Module time in ns at the start of ARBITRATING, of step 3 of a resynchronisation, and at its last failure (R274, R295). -/
  arbNs     : Nat := 0
  copyNs    : Nat := 0
  failNs    : Nat := 0
  token     : Bool := false
  oe        : Bool := false
  /-- IL_OUT is at the held level. -/
  ilOut     : Bool := false
  il        : IlRead := .open_
  il10uA    : Half := 0
  ilFault   : Bool := false
  strapB    : Bool := false
  l0Up      : Bool := false
  l1Up      : Bool := false
  linkUp    : Bool := false
  helloNs   : Option Nat := none
  partner   : Option HelloMsg := none
  conflict  : Bool := false
  disq      : BitVec 4 := 0
  so        : BitVec 4 := 0
  lag       : Word := 0
  soTime    : Word := 0
  switches  : Word := 0
  retrans   : Word := 0
  down0     : Half := 0
  down1     : Half := 0
  scanSeq   : Word := 0
  /-- The partner's last LOAD_CHECK: delta, RESULT, DIGEST (R46). -/
  loadCheck : Option (Bool × Byte × List Byte) := none
  /-- Records of the frame being filled, the 256 KB retransmission buffer, which lane the next frame takes. -/
  filling   : List Byte := []
  unacked   : List SentFrame := []
  nextL1    : Bool := false
  /-- The frame that a lane carried last. -/
  sent      : Option SentFrame := none
  /-- SCAN_SEQ of the last frame received. -/
  rxSeq     : Option Word := none
  /-- The frame that is arriving: its SCAN_SEQ, its records so far, and whether one of them or its CRC is wrong (R282, R283). -/
  rxCur     : Word := 0
  rxNext    : Nat := 0
  frame     : List PartnerRec := []
  frameBad  : Bool := false
  /-- The stream from the cut, which waits for the end of step 5 (Table 11-9). -/
  held      : List PartnerRec := []
  /-- IL_IN has not read RELEASED throughout the arbitration (R274). -/
  notFree   : Bool := false
  /-- A claim window is open; a module A that read HELD at its end waits; time a withdrawn module B may claim again. -/
  claiming  : Bool := false
  claimNs   : Nat := 0
  waitFree  : Bool := false
  retryNs   : Nat := 0
  /-- Module time at which IL_IN took RELEASED. -/
  freeNs    : Nat := 0
  /-- A handover waits for its release edge: its SO_CAUSE. -/
  handover  : Option (BitVec 4) := none
  /-- Token pulses: number of the last, announced and not yet reported, missed in a row. -/
  pulse     : Word := 0
  pulseOpen : Bool := false
  missed    : Nat := 0
  /-- When IL_OUT was raised for a token pulse that has not ended. -/
  pulseNs   : Option Nat := none
  /-- Replica input image (R285) and words that wait for their REFRESH. -/
  replica   : Tab ImgWord := []
  hidden    : Tab (Option ImgWord) := []
  /-- READ records with the activation they belong to; MARKs that wait. -/
  reads     : List (Word × ReadRec) := []
  marks     : List MarkWait := []
  /-- How many reads each (task, KIND, Lesson) has made in its activation (Table 11-14). -/
  taken     : List ((Nat × Nat × Nat) × Nat) := []
  /-- Changes that wait for the next DELTA record (R238). -/
  delta     : List DeltaEntry := []
  kept      : List KeptBatch := []
  /-- The active module's COMPARE records with their time of arrival; RESULT 2 marks a mismatch whose batch is fetched. -/
  compares  : List (CompareRec × Nat) := []
  fetched   : List (Nat × ImgWord) := []
  /-- Resynchronisation: step of Table 11-9, CAUSE of its request, its start, the cut, tasks that have matched, OP_MS of disqualifications. -/
  step      : Nat := 0
  why       : Byte := 1
  stepMs    : Nat := 0
  cutNs     : Option Nat := none
  pages     : Nat := 0
  /-- Pages as sent in step 3, by ADDRESS (active module). -/
  copied    : List (Word × List Byte) := []
  failed    : Bool := false
  matched   : Word := 0
  disqAt    : List Nat := []
  /-- Report Card (Table 11-12): own figures and the latest card. -/
  compared  : Word := 0
  mismatches : Word := 0
  mmWhere   : Word := 0
  mmAct     : Word := 0
  mmAData   : Word := 0
  mmATag    : Word := 0
  mmSData   : Word := 0
  mmSTag    : Word := 0
  lagMax    : Word := 0
  resyncMs  : Word := 0
  resyncs   : Word := 0
  seen      : Half := 0
  missTotal : Half := 0
  card      : List Word := []
  deriving DecidableEq, Repr

/-! ### Field update (chapter 15) -/

/-- UPD_STATUS.STATE (Table 15-10). -/
inductive UpdPhase where
  | idle | receiving | verifying | preparing | prepared | trial
  deriving DecidableEq, Repr

/-- A bank: header fields (Table 15-5) and its six parts. -/
structure Bank where
  valid    : Bool := false
  seq      : Word := 0
  manifest : List Byte := []
  digest   : List Byte := []
  parts    : Tab (List Byte) := []
  /-- PART_DIGEST of the parts listed in `parts`; the digest of an empty part for the others. -/
  digests  : Tab (List Byte) := []
  chanVer  : Half := 0
  deriving DecidableEq, Repr

/-- KIND 1 BEGIN, 2 RECEIVED, 3 ACTIVATE, 4 CONFIRM, 5 REVERT, 6 CANCEL (Table 15-7). -/
structure UpdRec where
  kind    : Nat := 1
  fromB   : Bool := false
  toB     : Bool := false
  version : Word := 0
  value   : Nat := 0
  crc     : Word := 0
  id      : List Byte := []
  opMs    : Nat := 0
  cycles  : Nat := 0
  deriving DecidableEq, Repr

/-- The package held. -/
structure UpdPkg where
  id     : List Byte := []
  size   : Nat := 0
  chunks : Tab (List Byte) := []
  digest : List Byte := []
  deriving DecidableEq, Repr

/-- Rollback area (R367). -/
structure Rollback where
  pages : List (Nat × List Byte) := []
  bank0 : RetBank := {}
  bank1 : RetBank := {}
  deriving DecidableEq, Repr

structure UpdSt where
  st       : UpdPhase := .idle
  trial    : Nat := 0
  bankB    : Bool := false
  confirmed : Bool := false
  restored : Bool := false
  result   : Byte := 0
  outcome  : BitVec 4 := 0
  pkg      : Option UpdPkg := none
  recs     : List UpdRec := []
  /-- Factory contents (log 4): bank A valid with manifest bytes 0. -/
  bankA    : Bank := { valid := true }
  bankB_   : Bank := {}
  revoked  : BitVec 4 := 0
  progress : Half := 0
  pend     : BitVec 48 := 0
  /-- OP_MS at which the conditions of the automatic confirmation began to hold without a break (R365). -/
  holdFrom : Option Nat := none
  rollback : Option Rollback := none
  /-- A REVERT record since the last Dawn asks for R368. -/
  reverted : Bool := false
  /-- Dies whose slot is programmed the second time (R361). -/
  again    : BitVec 48 := 0
  deriving DecidableEq, Repr

/-! ### The module -/

/-- The whole module. `pending` is the queue of commands that wait, first in, first out. -/
structure State where
  pending : List Instr := []
  /-- Time since Dawn in ns; TBRD is `now` / 1000 (Table 4-10). -/
  now     : Nat := 0
  /-- Operating time in ms (R316) and the ns of the running ms. -/
  opMs    : Nat := 0
  opNs    : Nat := 0
  /-- The model's own counters: how many free values have been drawn; order stamps. -/
  free    : Nat := 0
  stamp   : Nat := 0
  /-- ns that have passed, with or without logic: what the channels' own clocks count (R187). -/
  clockNs : Nat := 0
  variant : Variant := .sh
  sup     : SupSt := {}
  host    : HostSt := {}
  mb      : MbSt := {}
  cfg     : CfgSt := {}
  /-- The running image and its generation (CFG_GEN). -/
  run     : ImageCfg := {}
  gen     : Word := 0
  img     : ImgSt := {}
  tasks   : Tab TaskSt := []
  regions : Tab RegionSt := []
  timers  : Tab TimerSt := []
  engines : Tab EngineSt := []
  shared  : Memory := []
  rtc     : RtcSt := {}
  stor    : StorSt := {}
  diary   : DiarySt := {}
  chans   : Tab ChanSt := []
  net     : NetSt := {}
  es      : EsSt := {}
  safe    : SafeSt := {}
  red     : RedSt := {}
  upd     : UpdSt := {}
  deriving DecidableEq, Repr

/-- Reasons to stop with a fault. No command of this module stops it for good: errors are effects on the state. -/
inductive Fault where
  /-- Raised by no meaning: the module handles every error inside its state (R17, R22). Safe. -/
  | none
  deriving DecidableEq, Repr

/-- Reasons to refuse a command. -/
inductive Refusal where
  /-- Raised by an arm of Dispatch whose command has no meaning yet. Safe: no claim about the command can be proved. -/
  | notModelled (mnemonic : String)
  deriving DecidableEq, Repr

/-- The answer of a meaning. -/
abbrev Out := Host.Outcome State Fault Refusal

/-- The module right after reset: held in internal reset, no power-on Dawn yet, every unit at its reset values. -/
def State.reset : State := {}

end Sys2Proof.Machine
end

