-- ==== Sys2Proof/Machine/Ops.lean ====
section
/-! DEFINITION. Named operations over the state: sparse tables and byte memories in canonical form, little-endian
fields, CRC-32C, register packing, and the operations every unit uses: raising a Diary record, setting a HOST_IRQ bit. -/

namespace Sys2Proof.Machine

/-! ### Sparse tables and memories -/

/-- The value of key `k`; `d` where no entry lists it. -/
def tget {α : Type} (d : α) : Tab α → Nat → α
  | [], _ => d
  | (k', v) :: r, k => if k = k' then v else tget d r k

/-- Put the entry of key `k` in front of the first greater key. -/
def tput {α : Type} : Tab α → Nat → α → Tab α
  | [], k, v => [(k, v)]
  | (k', v') :: r, k, v => if k < k' then (k, v) :: (k', v') :: r else (k', v') :: tput r k v

/-- Drop the entries of key `k`. -/
def tcut {α : Type} : Tab α → Nat → Tab α
  | [], _ => []
  | (k', v') :: r, k => if k = k' then tcut r k else (k', v') :: tcut r k

/-- Set key `k`, keeping keys rising and no entry equal to `d`. -/
def tset {α : Type} [DecidableEq α] (d : α) (t : Tab α) (k : Nat) (v : α) : Tab α :=
  if v = d then tcut t k else tput (tcut t k) k v

/-- Apply `f` to the entry of key `k`. -/
def tmod {α : Type} [DecidableEq α] (d : α) (t : Tab α) (k : Nat) (f : α → α) : Tab α :=
  tset d t k (f (tget d t k))

/-- A number put into an ascending list, once. -/
def insNat (l : List Nat) (n : Nat) : List Nat :=
  if l.contains n then l else l.takeWhile (· < n) ++ [n] ++ l.dropWhile (· < n)

/-- Drop every entry whose key `p` selects. -/
def tdrop {α : Type} (p : Nat → Bool) (t : Tab α) : Tab α := t.filter (fun e => !p e.1)

/-- The canonical form: every key above `lo`, rising, no value equal to `d`. -/
def twfFrom {α : Type} [DecidableEq α] (d : α) (lo : Option Nat) : Tab α → Bool
  | [] => true
  | (k, v) :: r => (match lo with | none => true | some l => decide (l < k)) && !decide (v = d) && twfFrom d (some k) r

def twf {α : Type} [DecidableEq α] (d : α) (t : Tab α) : Bool := twfFrom d none t

/-- The canonical form of a byte memory: addresses strictly rising, no entry equal to 0, what an unlisted byte reads. -/
def Memory.wf (m : Memory) : Bool := twf (α := Byte) 0 m

def readByte (m : Memory) (a : Nat) : Byte := tget 0 m a
def writeByte (m : Memory) (a : Nat) (b : Byte) : Memory := tset (α := Byte) 0 m a b

/-- `n` bytes from address `a` upward. -/
def readBytes (m : Memory) (a : Nat) : Nat → List Byte
  | 0 => []
  | n + 1 => readByte m a :: readBytes m (a + 1) n

def writeBytes (m : Memory) (a : Nat) : List Byte → Memory
  | [] => m
  | b :: r => writeBytes (writeByte m a b) (a + 1) r

/-! ### Little-endian fields (Conventions: byte order is little-endian throughout) -/

/-- The `n` low bytes of `v`, least significant first. -/
def leBytes : Nat → Nat → List Byte
  | 0, _ => []
  | n + 1, v => BitVec.ofNat 8 v :: leBytes n (v / 256)

/-- The number that bytes spell, least significant first. -/
def ofLe : List Byte → Nat
  | [] => 0
  | b :: r => b.toNat + 256 * ofLe r

/-- The field of `n` bytes at offset `off`; bytes past the end read 0. -/
def field (bs : List Byte) (off n : Nat) : Nat := ofLe ((bs.drop off).take n)
def fieldB (bs : List Byte) (off : Nat) : Byte := BitVec.ofNat 8 (field bs off 1)
def fieldH (bs : List Byte) (off : Nat) : Half := BitVec.ofNat 16 (field bs off 2)
def fieldW (bs : List Byte) (off : Nat) : Word := BitVec.ofNat 32 (field bs off 4)
def wordBytes (w : Word) : List Byte := leBytes 4 w.toNat
def halfBytes (h : Half) : List Byte := leBytes 2 h.toNat
/-- Bytes cut or padded with 0 to exactly `n`. -/
def padTo (n : Nat) (bs : List Byte) : List Byte := (bs ++ List.replicate (n - bs.length) 0).take n

/-! ### Checksums -/

/-- One bit of a reflected CRC of width `w` with reflected polynomial `poly`. -/
def crcBit {w : Nat} (poly c : BitVec w) : BitVec w := if c.getLsbD 0 then (c >>> 1) ^^^ poly else c >>> 1

def crcByte {w : Nat} (poly c : BitVec w) (b : Byte) : BitVec w :=
  let c0 := c ^^^ b.setWidth w
  crcBit poly (crcBit poly (crcBit poly (crcBit poly (crcBit poly (crcBit poly (crcBit poly (crcBit poly c0)))))))

/-- CRC-32C (chapter 02): polynomial 0x1EDC_6F41, reflected, initial value and final exclusive-or all ones. -/
def crc32c (bs : List Byte) : Word := bs.foldl (crcByte 0x82F63B78#32) 0xFFFFFFFF#32 ^^^ 0xFFFFFFFF#32

/-! ### Counters -/

/-- One more, holding at the maximum of the field (R401). -/
def satInc {w : Nat} (v : BitVec w) : BitVec w := if v = BitVec.allOnes w then v else v + 1
/-- `n` more, holding at the maximum. -/
def satAdd {w : Nat} (v : BitVec w) (n : Nat) : BitVec w :=
  if v.toNat + n ≥ 2 ^ w then BitVec.allOnes w else BitVec.ofNat w (v.toNat + n)
/-- A number into a field that saturates. -/
def satOf (w n : Nat) : BitVec w := if n ≥ 2 ^ w then BitVec.allOnes w else BitVec.ofNat w n
/-- R400: `a` is ahead of `b` by modular comparison. -/
def ahead {w : Nat} (a b : BitVec w) : Bool :=
  let d := (a - b).toNat; decide (1 ≤ d) && decide (d < 2 ^ (w - 1))

def boolBit (n : Nat) (b : Bool) : Word := if b then BitVec.ofNat 32 (2 ^ n) else 0
/-- A field value placed at bit `n` of a register. -/
def atBit {w : Nat} (n : Nat) (v : BitVec w) : Word := v.setWidth 32 <<< n
def absDiff (a b : Nat) : Nat := (a - b) + (b - a)
def natAt (n v : Nat) : Word := BitVec.ofNat 32 v <<< n
/-- Write-one-to-clear over the bits of `mask`. -/
def w1c (old v mask : Word) : Word := old &&& ~~~(v &&& mask)

/-! ### Access to the units -/

def State.task (s : State) (t : Nat) : TaskSt := tget {} s.tasks t
def State.setTask (s : State) (t : Nat) (x : TaskSt) : State := { s with tasks := tset {} s.tasks t x }
def State.modTask (s : State) (t : Nat) (f : TaskSt → TaskSt) : State := s.setTask t (f (s.task t))
def State.region (s : State) (r : Nat) : RegionSt := tget {} s.regions r
def State.setRegion (s : State) (r : Nat) (x : RegionSt) : State := { s with regions := tset {} s.regions r x }
def State.modRegion (s : State) (r : Nat) (f : RegionSt → RegionSt) : State := s.setRegion r (f (s.region r))
def State.timer (s : State) (n : Nat) : TimerSt := tget {} s.timers n
def State.setTimer (s : State) (n : Nat) (x : TimerSt) : State := { s with timers := tset {} s.timers n x }
def State.engine (s : State) (e : Nat) : EngineSt := tget {} s.engines e
def State.setEngine (s : State) (e : Nat) (x : EngineSt) : State := { s with engines := tset {} s.engines e x }
def State.modEngine (s : State) (e : Nat) (f : EngineSt → EngineSt) : State := s.setEngine e (f (s.engine e))
def State.chan (s : State) (c : Nat) : ChanSt := tget {} s.chans c
def State.setChan (s : State) (c : Nat) (x : ChanSt) : State := { s with chans := tset {} s.chans c x }
def State.modChan (s : State) (c : Nat) (f : ChanSt → ChanSt) : State := s.setChan c (f (s.chan c))
def State.iwGet (s : State) (n : Nat) : ImgWord := tget {} s.img.iw n
def State.qwGet (s : State) (n : Nat) : ImgWord := tget {} s.img.qw n
def State.setIw (s : State) (n : Nat) (w : ImgWord) : State := { s with img := { s.img with iw := tset {} s.img.iw n w } }
def State.setQw (s : State) (n : Nat) (w : ImgWord) : State := { s with img := { s.img with qw := tset {} s.img.qw n w } }

/-- The task record of Tt in the running image; all zero where the image has none. -/
def taskCfg (img : ImageCfg) (t : Nat) : TaskCfg := img.tasks.getD t {}
def State.tcfg (s : State) (t : Nat) : TaskCfg := taskCfg s.run t
def lessonCfg (img : ImageCfg) (l : Nat) : LessonCfg := img.lessons.getD l {}
/-- The routing entry of a word, if the image has one. -/
def routeOf (img : ImageCfg) (out : Bool) (n : Nat) : Option RouteCfg :=
  img.routes.find? (fun r => r.out == out && r.num == n)
def routedIn (img : ImageCfg) (n : Nat) : Bool := (routeOf img false n).isSome

/-- The task numbers T0–T31. -/
def taskIds : List Nat := List.range 32
def regionIds : List Nat := List.range 16

/-- The region's active and shadow plane. -/
def RegionSt.active (r : RegionSt) : Plane := if r.plane1 then r.p1 else r.p0
def RegionSt.shadow (r : RegionSt) : Plane := if r.plane1 then r.p0 else r.p1
def RegionSt.setShadow (r : RegionSt) (p : Plane) : RegionSt := if r.plane1 then { r with p0 := p } else { r with p1 := p }

/-- One bit of a plane inverted: cell words by block<<7 | cluster<<3 | cell, routing words by block<<8 | slot. -/
def Plane.flip (b : PlaneBit) (p : Plane) : Plane :=
  if b.routing then { p with rws := tmod 0 p.rws (b.block.val * 256 + b.idx.val) (fun w => w ^^^ BitVec.ofNat 64 (2 ^ (b.bit.val % 64))) }
  else { p with cells := tmod 0 p.cells (b.block.val * 128 + b.idx.val % 128) (fun w => w ^^^ BitVec.ofNat 128 (2 ^ b.bit.val)) }
def RegionSt.flip (b : PlaneBit) (r : RegionSt) : RegionSt :=
  if b.plane1 then { r with p1 := r.p1.flip b } else { r with p0 := r.p0.flip b }

/-- Regions that a task owns by its REGION_MASK. -/
def taskRegions (c : TaskCfg) : List Nat := regionIds.filter (fun r => c.regionMask.getLsbD r)
/-- The task that owns a region in an image. -/
def regionOwner (img : ImageCfg) (r : Nat) : Option Nat :=
  taskIds.find? (fun t => (taskCfg img t).kind != 0 && (taskCfg img t).regionMask.getLsbD r)

/-- TBRD: µs since Dawn (Table 4-10); it holds at 2^64 − 1 (Table 17-4). -/
def State.tbrd (s : State) : Nat := min (s.now / 1000) (2 ^ 64 - 1)

/-- Logic is up: the host port answers. -/
def State.up (s : State) : Bool := s.sup.phase != .reset
/-- Dawn goes on while the pair arbitrates, before the tasks start (Table 16-8). -/
def dawnGoesOn (s : State) : Bool := s.sup.dawning && s.red.st == .arbitrating
def State.running (s : State) : Bool := s.sup.phase == .run && s.sup.ending.isNone

/-! ### Free values (log 3) -/

def State.drawWord (s : State) : Word × State := (Config.freeWord s.free, { s with free := s.free + 1 })
def State.drawBool (s : State) : Bool × State := (Config.freeBool s.free, { s with free := s.free + 1 })

/-! ### Variant and unit presence (R2, Table 0-1) -/

def Variant.code : Variant → Byte
  | .sh => 0 | .b => 1 | .s => 2 | .h => 3
def Variant.units : Variant → Word
  | .sh => 0xFFFF | .b => 0xFCFF | .s => 0xFDFF | .h => 0xFEFF
def Variant.safety (v : Variant) : Bool := v == .sh || v == .s
def Variant.redundancy (v : Variant) : Bool := v == .sh || v == .h

/-! ### The banks (R363) -/

/-- The bank that runs. -/
def runningBank (s : State) : Bank := if s.upd.bankB then s.upd.bankB_ else s.upd.bankA
def inactiveBank (s : State) : Bank := if s.upd.bankB then s.upd.bankA else s.upd.bankB_
/-- PACKAGE_ID and FW_VERSION of a manifest (Table 15-3). -/
def mfId (m : List Byte) : List Byte := padTo 16 m
def mfVersion (m : List Byte) : Word := fieldW m 0x10
def mfRetainFmt (m : List Byte) : Nat := field m 0x1E 2
def partOf (b : Bank) (p : Nat) : List Byte := tget [] b.parts p

/-! ### Interrupts and the Diary -/

/-- An event gathers for the sessions that asked for notifications (R240). -/
def noteSession (bit : Byte) (x : SesSt) : SesSt := if x.notify then { x with bits := x.bits ||| bit } else x

/-- An event sets its HOST_IRQ bit; the vector is sent when the bit is enabled and was not sent since its last clear (R390). -/
def setIrq (n : Nat) (s : State) : State :=
  let bit : Byte := BitVec.ofNat 8 (2 ^ n)
  let s := { s with es := { s.es with s0 := noteSession bit s.es.s0, s1 := noteSession bit s.es.s1 } }
  let send := s.host.irqEn.getLsbD n && !s.host.msixSent.getLsbD n
  { s with host := { s.host with
      irq := s.host.irq ||| bit
      msixSent := if send then s.host.msixSent ||| bit else s.host.msixSent
      msixCount := if send then s.host.msixCount + 1 else s.host.msixCount } }

/-- Severity of a code (Table 13-3, R323). -/
def severityOf (code : Half) : Nat :=
  match code.toNat with
  | 0x0001 => 2 | 0x0002 => 0 | 0x0003 => 0 | 0x0004 => 1 | 0x0005 => 0 | 0x0006 => 1
  | 0x2001 => 2 | 0x2002 => 1 | 0x2003 => 0 | 0x3001 => 2 | 0x3002 => 0 | 0x3003 => 1
  | 0x6001 => 1 | 0x6002 => 2 | 0x6003 => 2 | 0x7001 => 2 | 0x7002 => 0 | 0x7003 => 1 | 0x7004 => 1
  | 0x8001 => 3 | 0x9001 => 3 | 0x9002 => 2 | 0x9003 => 2 | 0x9004 => 1 | 0x9005 => 3 | 0x9006 => 1
  | 0xA001 => 1 | 0xA002 => 0 | 0xA003 => 2 | 0xC001 => 2 | 0xB001 => 2
  | 0xF001 => 3 | 0xF002 => 1 | 0xF003 => 0 | 0xF004 => 1 | 0xF005 => 1 | 0xF006 => 1
  | _ => 0

/-- A Diary record is dropped and counted for the next RECORDS_LOST record (R325). -/
def diaryDrop (s : State) : State :=
  { s with diary := { s.diary with
      dropped := satInc s.diary.dropped, lost := s.diary.lost + 1
      lostFirst := if s.diary.lost = 0 then s.opMs else s.diary.lostFirst, lostLast := s.opMs } }

/-- Raise a Diary record: it waits for DIARY_ENTRY in the order raised; before the Dawn has established the power-cycle
count, in a queue of 256 (R324, R326). -/
def diaryRaise (code inst : Half) (detail : List Byte) (s : State) : State :=
  if s.sup.phase = .reset ∧ 256 ≤ s.diary.raised.length then diaryDrop s
  else { s with diary := { s.diary with
      raised := s.diary.raised ++ [(⟨code, inst, padTo 24 detail, false⟩ : Raised)] } }

/-- The INSTANCE value for none (Table 13-1). -/
def noInst : Half := 0xFFFF

/-- Change CFG_LOAD; the CFG interrupt reports each change (Table 16-15). -/
def setCfgLoad (sec stage status : Byte) (detail : Word) (s : State) : State :=
  let c := s.cfg
  let changed := decide (c.section_ ≠ sec) || decide (c.stage ≠ stage) || decide (c.status ≠ status)
  let s' := { s with cfg := { c with section_ := sec, stage := stage, status := status, detail := detail } }
  if changed then setIrq 1 s' else s'

end Sys2Proof.Machine
end

