-- ==== Sys2Proof/Machine/Storage.lean ====
section
/-! DEFINITION. Non-volatile storage (chapter 12): sector replacement, the log areas and their compaction, parameter store,
durable counters, staging, what Dawn repairs, and the storage registers. -/

namespace Sys2Proof.Machine

/-! ### Areas of the flash by sector number (Table 12-2) -/

def psBase : Nat := 1280
def dcBase : Nat := 3872
def diaryBase : Nat := 3328
def changeLogBase : Nat := 3840
def inArea (lo n sector : Nat) : Bool := decide (lo ≤ sector) && decide (sector < lo + n)
def isPs (sector : Nat) : Bool := inArea psBase 256 sector
def isDc (sector : Nat) : Bool := inArea dcBase 32 sector
def isDiary (sector : Nat) : Bool := inArea diaryBase 512 sector
/-- RESERVE0 and RESERVE1. -/
def reserveSectors : List Nat := (List.range 512).map (1536 + ·) ++ (List.range 192).map (3904 + ·)

def modStor (f : StorSt → StorSt) (s : State) : State := { s with stor := f s.stor }

/-- The key of the entry with the least value under `f` among `ks`, the first of equals. -/
def leastBy (f : Nat → Nat) : List Nat → Option Nat
  | [] => none
  | k :: r => match leastBy f r with
    | none => some k
    | some j => if f k ≤ f j then some k else some j

/-! ### Sectors: replacement, erase, program (R301, R302, R320) -/

/-- The sector that accesses to sector `x` reach: REMAP's pairs in the order in which they were entered. -/
def phys (s : State) (x : Nat) : Nat := s.stor.remap.foldl (fun p e => if p = e.1 then e.2 else p) x
def wearOf (s : State) (x : Nat) : Nat := tget 0 s.stor.wear (phys s x)
/-- The sector is under rewrite (R318). -/
def rewriting (s : State) (x : Nat) : Bool := match s.stor.refresh with | some r => r.1 == x | none => false

def reserveFree (s : State) : List Nat :=
  reserveSectors.filter (fun r => s.stor.remap.all (fun p => p.1 != r && p.2 != r) && !s.stor.retired.contains r
    && (match s.stor.refresh with | some x => x.2.1 != r | none => true))
/-- A free reserve sector, on the same die when one is free. -/
def pickReserve (s : State) (sector : Nat) : Option Nat :=
  let f := reserveFree s
  match f.find? (fun r => decide (r < 2048) == decide (sector < 2048)) with
  | some r => some r
  | none => f.head?

/-- REMAP's two copies are written alternately (R302). -/
def writeRemap (t : List (Nat × Nat)) (s : State) : State :=
  modStor (fun x => if x.remapNext1 then { x with remap := t, remap1 := some t, remapNext1 := false }
    else { x with remap := t, remap0 := some t, remapNext1 := true }) s
/-- What Dawn reads of REMAP: the valid copy with more entries (R302). -/
def dawnRemap (s : State) : List (Nat × Nat) :=
  let a := s.stor.remap0.getD []
  let b := s.stor.remap1.getD []
  if a.length < b.length then b else a

/-- The physical sector `p` fails a verify and is retired: replaced while REMAP and the reserve have room (R302, log 37). -/
def retireSector (p : Nat) (s : State) : State :=
  let s := modStor (fun x => { x with worn := x.worn.filter (· != p) }) s
  match (if s.stor.remap.length < 512 then pickReserve s p else none) with
  | some r => diaryRaise 0xA001 (BitVec.ofNat 16 p) (leBytes 2 r) (writeRemap (s.stor.remap ++ [(p, r)]) s)
  | none => diaryRaise 0xA001 (BitVec.ofNat 16 p) [0xFF, 0xFF] (modStor (fun x => { x with retired := x.retired ++ [p] }) s)

/-- A program of sector `x` with its verify: a sector that fails it is retired and the program made again in its replacement.
False where no replacement is left. -/
def programIn (x : Nat) : Nat → State → Bool × State
  | 0, s => (!s.stor.retired.contains (phys s x), s)
  | n + 1, s =>
    if s.stor.retired.contains (phys s x) then (false, s)
    else if s.stor.worn.contains (phys s x) then programIn x n (retireSector (phys s x) s)
    else (true, s)
def program (x : Nat) (s : State) : Bool × State := programIn x (s.stor.worn.length + 1) s

/-- An erase begins; it ends with SECTOR_ERASE_DONE (R301). -/
def beginErase (sector : Nat) (s : State) : State := modStor (fun x => { x with erasing := x.erasing ++ [sector] }) s
/-- An erase inside an operation whose duration is not modelled (log 36): only its count shows (R320). -/
def eraseNow (x : Nat) (s : State) : State := modStor (fun y => { y with wear := tmod 0 y.wear (phys s x) (· + 1) }) s
/-- `n` sectors from `lo` are erased, each replaced one in its replacement. -/
def eraseRange (lo n : Nat) (s : State) : State :=
  let w := s.stor.wear
  let own : Tab Nat := (List.range n).filterMap (fun i =>
    let v := tget 0 w (lo + i) + (if phys s (lo + i) = lo + i then 1 else 0)
    if v = 0 then none else some (lo + i, v))
  let all := w.filter (fun e => decide (e.1 < lo)) ++ own ++ w.filter (fun e => decide (lo + n ≤ e.1))
  let moved := (List.range n).filter (fun i => phys s (lo + i) != lo + i)
  modStor (fun y => { y with wear := moved.foldl (fun t i => tmod 0 t (phys s (lo + i)) (· + 1)) all }) s
/-- Every worn sector of `n` from `lo` meets a program; false where one of them has no replacement. -/
def programRange (lo n : Nat) (s : State) : Bool × State :=
  ((List.range n).filter (fun i => s.stor.worn.contains (phys s (lo + i)) || s.stor.retired.contains (phys s (lo + i)))).foldl
    (fun a i => let p := program (lo + i) a.2; (a.1 && p.1, p.2)) (true, s)

/-! ### Marks and headers (R301, R305, R306) -/

def validWord : Word := 0x0000A55A
def Mark.sound (m : Mark) : Bool := m.normal == validWord && m.pv == validWord && m.ev == validWord
def Mark.void : Mark := ⟨0, 0, 0⟩
/-- VALID as a write that ended there leaves it; which bits a partial one shows is immaterial (R306 settles it at Dawn). -/
def cutMark : SlotFound → Mark
  | .incomplete => ⟨0xFFFFFFFF, 0xFFFFFFFF, 0xFFFFFFFF⟩
  | .marginal _ => ⟨validWord, 0xFFFFFFFF, validWord⟩
  | .complete => {}
/-- What Dawn makes of a mark (R306): one that reads right but fails a margin read is completed where the record's CRC is
correct, else voided. -/
def settleMark (m : Mark) (crcOk : Bool) : Mark :=
  if m.normal == validWord && !m.sound then (if crcOk then {} else .void) else m
/-- Dawn had to repair or void the record. -/
def slotRepaired : SlotFound → Bool
  | .complete => false | _ => true
/-- The record's check is right. -/
def slotCrcOk : SlotFound → Bool
  | .marginal ok => ok | _ => true

def headBytes (h : SectorHead) : List Byte :=
  wordBytes h.magic ++ [h.area, 0, 0, 0] ++ wordBytes h.erases ++ wordBytes h.sseq ++ List.replicate 40 0

/-! ### Log areas (R301, R309, R314) -/

/-- One of the two log areas: where it lies, records to a sector, AREA, and its place in the state. -/
structure LogOf (α : Type) where
  base  : Nat
  count : Nat
  cap   : Nat
  area  : Byte
  get   : StorSt → LogArea α
  put   : StorSt → LogArea α → StorSt

def psLog : LogOf PsRec := ⟨psBase, 256, 227, 1, StorSt.ps, fun x a => { x with ps := a }⟩
def dcLog : LogOf DcRec := ⟨dcBase, 32, 1023, 4, StorSt.dc, fun x a => { x with dc := a }⟩

section
variable {α : Type} [DecidableEq α] (L : LogOf α)

def areaSec (s : State) (i : Nat) : LogSector α := tget {} (L.get s.stor).secs i
def setAreaSec (i : Nat) (x : LogSector α) (s : State) : State :=
  modStor (fun y => L.put y { (L.get y) with secs := tset {} (L.get y).secs i x }) s
def areaOpen (s : State) : Nat := (L.get s.stor).open_
def areaErased (s : State) : List Nat := (List.range L.count).filter (fun i => (areaSec L s i).st = .erased)
def headOk (h : SectorHead) : Bool :=
  h.magic == 0x53435431 && h.area == L.area && h.crc == crc32c (headBytes h) && h.valid.sound
/-- The records of a sector: none without a valid header (R301). -/
def secRecs (x : LogSector α) : List α := if x.st = .used ∧ x.head.any (headOk L) then x.recs else []
/-- Every record of the area with its sector. -/
def areaRecs (s : State) : List (Nat × α) := (L.get s.stor).secs.flatMap (fun e => (secRecs L e.2).map (fun r => (e.1, r)))

/-- Sector `i` is taken into use: its header is programmed (R301). -/
def areaTake (i : Nat) (s : State) : State :=
  let a := L.get s.stor
  let h : SectorHead := { area := L.area, erases := BitVec.ofNat 32 (wearOf s (L.base + i)), sseq := a.secSeq }
  modStor (fun y => L.put y { a with
    open_ := i, secSeq := a.secSeq + 1, secs := tset {} a.secs i ⟨.used, some { h with crc := crc32c (headBytes h) }, []⟩ }) s
/-- The open sector takes a record. -/
def areaFit (s : State) : Bool :=
  let x := areaSec L s (areaOpen L s)
  decide (x.st = .used) && decide (x.recs.length < L.cap) && !s.stor.retired.contains (phys s (L.base + areaOpen L s))
/-- An open sector that programs: when the open one is full or retired, the erased sector of lowest erase count (R320). -/
def areaReady : Nat → State → State
  | 0, s => s
  | n + 1, s =>
    if areaFit L s then
      let p := program (L.base + areaOpen L s) s
      if p.1 then p.2 else areaReady n p.2
    else match leastBy (fun i => wearOf s (L.base + i)) (areaErased L s) with
      | none => s
      | some i => areaReady n (areaTake L i s)
/-- Append a record to the open sector; nothing is written where the area has no room left. -/
def areaAppend (r : α) (s : State) : State :=
  let s := areaReady L (2 * s.stor.worn.length + 3) s
  if areaFit L s then
    let i := areaOpen L s
    setAreaSec L i { (areaSec L s i) with recs := (areaSec L s i).recs ++ [r] } s
  else s
/-- Replace every record `r` of sector `i` by `f r`. -/
def areaMap (i : Nat) (f : α → α) (s : State) : State := setAreaSec L i { (areaSec L s i) with recs := (areaSec L s i).recs.map f } s

/-- Compaction of sector `i` (R309, R314): its live records are copied into the open sector, another one where `i` itself is
open; then it is erased, or given up where it has been retired. -/
def areaCompactSector (live : State → α → Bool) (copy : α → State → State) (i : Nat) (s : State) : State :=
  if areaErased L s = [] then s
  else
    let rs := (secRecs L (areaSec L s i)).filter (live s)
    let s := if areaOpen L s = i then modStor (fun y => L.put y { (L.get y) with open_ := L.count }) s else s
    let s := rs.foldl (fun s r => copy r s) s
    if s.stor.retired.contains (phys s (L.base + i)) then setAreaSec L i { st := .lost } s
    else beginErase (L.base + i) (setAreaSec L i { st := .erasing } s)

/-- The age of a sector by SECTOR_SEQ, modular (R400): less is older. -/
def secAge (s : State) (x : LogSector α) : Nat :=
  let seq := match x.head with | some h => h.sseq | none => 0
  2 ^ 32 - ((L.get s.stor).secSeq - seq).toNat
/-- Keep at least 8 erased sectors: the used sector with the fewest live records, lowest SECTOR_SEQ among equals (R309). -/
def areaCompact (live : State → α → Bool) (copy : α → State → State) (s : State) : State :=
  if 8 < (areaErased L s).length + (s.stor.erasing.filter (inArea L.base L.count)).length then s
  else
    let used := (List.range L.count).filter (fun i => (areaSec L s i).st = .used && i != areaOpen L s)
    match leastBy (fun i => ((secRecs L (areaSec L s i)).filter (live s)).length * 2 ^ 33 + secAge L s (areaSec L s i)) used with
    | none => s
    | some i => areaCompactSector L live copy i s

end

/-! ### Parameter store -/

def psHeader (r : PsRec) : List Byte :=
  wordBytes r.magic ++ leBytes 2 r.page ++ [r.off, 0] ++ leBytes 2 r.len ++ [0, 0] ++ leBytes 8 r.seq ++ wordBytes r.crc
/-- A record is valid by its own marks (R305). -/
def psRecOk (r : PsRec) : Bool := r.magic == 0x50535231 && r.valid.sound && r.hcrc == crc32c (psHeader r)
/-- The valid records. -/
def psRecs (s : State) : List PsRec := ((areaRecs psLog s).map (·.2)).filter psRecOk

/-- The record with the highest SEQ of a page among `rs`; of those whose DATA_CRC is right where `crcOk` asks it. -/
def psNewest (rs : List PsRec) (page : Nat) (crcOk : Bool) : Option PsRec :=
  rs.foldl (fun b r =>
    if r.page = page ∧ (!crcOk || crc32c r.data == r.crc) then
      match b with | none => some r | some x => if x.seq < r.seq then some r else b
    else b) none

/-- The current content of a page (R305), and whether an older record had to serve it (R308). -/
def psContent (s : State) (page : Nat) : List Byte × Bool :=
  match psNewest (psRecs s) page true, psNewest (psRecs s) page false with
  | some r, some n => (r.data, decide (r.seq ≠ n.seq))
  | none, some _ => (List.replicate 256 0xFF, true)
  | _, none => (List.replicate 256 0xFF, false)
/-- A page is served; an older record that serves it is reported (R308). -/
def psServe (page : Nat) (s : State) : List Byte × State :=
  let v := psContent s page
  let seq : List Byte := match psNewest (psRecs s) page true with | some r => leBytes 8 r.seq | none => List.replicate 8 0xFF
  (v.1, if v.2 then diaryRaise 0xA003 (BitVec.ofNat 16 page) seq (modStor (fun x => { x with psFallback := true }) s) else s)

/-- Take the next record slot with the next SEQ (R304, R305). -/
def psSlot (page : Nat) (off : Byte) (len : Nat) (data : List Byte) (valid : Mark) (s : State) : State :=
  let r : PsRec := { page := page, off := off, len := len, seq := s.stor.psSeq, crc := crc32c data, data := data, valid := valid }
  modStor (fun x => { x with psSeq := x.psSeq + 1 }) (areaAppend psLog { r with hcrc := crc32c (psHeader r) } s)

/-- A record is live when it is the newest of its page. -/
def psLive (s : State) (r : PsRec) : Bool := psRecOk r && match psNewest (psRecs s) r.page true with | some n => n.seq == r.seq | none => false
def psCopy (r : PsRec) (s : State) : State := psSlot r.page r.off r.len r.data {} s
def psCompact (s : State) : State := areaCompact psLog psLive psCopy s
def psErased (s : State) : List Nat := areaErased psLog s

/-- Bytes written at OFFSET of a page, wrapping at the page end (R304). -/
def psMerge (old : List Byte) (off : Nat) (data : List Byte) : List Byte :=
  (List.range 256).map (fun p =>
    let i := (p + 256 - off) % 256
    if i < data.length then data.getD i 0 else old.getD p 0xFF)

/-- The record of a page write (R304, R307, R309), its VALID as given. -/
def psStore (page : Nat) (off : Byte) (data : List Byte) (valid : Mark) (s : State) : State :=
  let v := psServe page s
  psCompact (psSlot page off data.length (psMerge v.1 off.toNat data) valid v.2)

/-- R310: at most `limit` writes in any second; `k` more are asked for. -/
def rateOver (times : List Nat) (limit k now : Nat) : Bool :=
  decide (limit < (times.filter (fun t => decide (now < t + 1000000000))).length + k)
def psRateOver (s : State) (k : Nat) : Bool := rateOver s.stor.psTimes 200 k s.now
/-- The area has room for a record. -/
def psRoom (s : State) : Bool := areaFit psLog s || !(psErased s).isEmpty
/-- A page write, counted for the rate (R310). -/
def psWrite (page off : Nat) (data : List Byte) (s : State) : State :=
  psStore page (BitVec.ofNat 8 off) data {} (modStor (fun x => { x with psTimes := (s.now :: x.psTimes).take 200 }) s)

/-- Lost bits in a page's newest record: its DATA no longer fits DATA_CRC (R308). -/
def psRot (page : Nat) (s : State) : State :=
  match psNewest (psRecs s) page false with
  | none => s
  | some n => (List.range 256).foldl (fun s i =>
      if (secRecs psLog (areaSec psLog s i)).contains n then
        areaMap psLog i (fun r => if r = n then { r with data := (~~~(r.data.getD 0 0)) :: r.data.drop 1 } else r) s
      else s) s

/-! ### Durable counters -/

def dcHeader (r : DcRec) : List Byte :=
  wordBytes r.magic ++ leBytes 2 r.counter ++ [0, 0] ++ wordBytes r.gen ++ [0, 0, 0, 0] ++ leBytes 8 r.base
def dcRecOk (r : DcRec) : Bool := r.magic == 0x44434E31 && r.valid.sound && r.hcrc == crc32c (dcHeader r)
/-- A new record, its VALID as given. -/
def dcNew (n : Nat) (gen : Word) (base prog : Nat) (valid : Mark) : DcRec :=
  let r : DcRec := { counter := n, gen := gen, base := base, prog := prog, valid := valid }
  { r with hcrc := crc32c (dcHeader r) }
/-- The valid records of a counter, as (sector, record). -/
def dcRecs (s : State) (n : Nat) : List (Nat × DcRec) := (areaRecs dcLog s).filter (fun e => e.2.counter == n && dcRecOk e.2)
/-- The valid record with the highest GENERATION. -/
def dcCurrent (s : State) (n : Nat) : Option (Nat × DcRec) :=
  (dcRecs s n).foldl (fun b r => match b with | none => some r | some x => if ahead r.2.gen x.2.gen then some r else b) none
/-- R311. -/
def dcValue (s : State) (n : Nat) : Nat := match dcCurrent s n with | none => 0 | some r => r.2.base + r.2.prog

def dcReplace (sec : Nat) (old new : DcRec) (s : State) : State := areaMap dcLog sec (fun r => if r = old then new else r) s
def dcLive (s : State) (r : DcRec) : Bool := dcRecOk r && match dcCurrent s r.counter with | some x => x.2.gen == r.gen | none => false
def dcCopy (r : DcRec) (s : State) : State := areaAppend dcLog r s
def dcCompact (s : State) : State := areaCompact dcLog dcLive dcCopy s

/-- The carry of a full record (R313): the new record, its VALID as given; then the old one is retired when the new one is valid. -/
def dcCarry (n : Nat) (valid : Mark) (s : State) : State :=
  match dcCurrent s n with
  | none => s
  | some (sec, r) =>
    if r.prog < 256 then s
    else
      let s := areaAppend dcLog (dcNew n (r.gen + 1) (r.base + r.prog) 0 valid) s
      if valid.sound then dcReplace sec r { r with valid := .void } s else s

/-- The lowest unprogrammed bit is programmed and verified (R312); in a sector that takes no program any more the count moves
on to a new record (R302, log 37). -/
def dcBit (n : Nat) (s : State) : State :=
  match dcCurrent s n with
  | none => areaAppend dcLog (dcNew n 1 0 1 {}) s
  | some (sec, r) =>
    let p := program (dcBase + sec) s
    if p.1 then dcReplace sec r { r with prog := r.prog + 1 } p.2
    else areaAppend dcLog (dcNew n (r.gen + 1) (r.base + r.prog) 1 {}) p.2

/-- An increment with its carry (R312, R313); nothing at 2^64 − 1 (R315). A carry that a failure has kept from ending is made
first (log 37). -/
def dcInc (n : Nat) (s : State) : State :=
  if 2 ^ 64 - 1 ≤ dcValue s n then s
  else
    let s := dcCompact (dcCarry n {} (dcBit n (dcCarry n {} s)))
    modStor (fun x => { x with
      shadow := tset 0 x.shadow n (dcValue s n), dcTimes := (s.now :: x.dcTimes).take 500 }) s

/-- R315: at most 500 increments in any second over all counters. -/
def dcRateFull (s : State) : Bool := rateOver s.stor.dcTimes 500 1 s.now

/-- The sector of a counter's current record. -/
def dcSectorOf (s : State) (n : Nat) : Nat := dcBase + (match dcCurrent s n with | some x => x.1 | none => areaOpen dcLog s)

/-- The power-cycle count of stamps and records: DCNT0 limited to 24 bits (R316). -/
def powerCycles (s : State) : Nat := min (dcValue s 0) 16777215

/-! ### Interrupted writes at Dawn (R306, R312, R313, R319) -/

/-- Every record of an area is settled. -/
def areaSettle {α : Type} [DecidableEq α] (L : LogOf α) (f : α → α) (s : State) : State :=
  ((L.get s.stor).secs.map (·.1)).foldl (fun s i => areaMap L i f s) s
def psSettle (s : State) : State := areaSettle psLog (fun r => { r with valid := settleMark r.valid (crc32c r.data == r.crc) }) s
def dcSettle (s : State) : State := areaSettle dcLog (fun r => { r with valid := settleMark r.valid (r.hcrc == crc32c (dcHeader r)) }) s
/-- A valid record of a lower GENERATION than another one of its counter is retired (R313). -/
def dcRetireLower (n : Nat) (s : State) : State :=
  match dcCurrent s n with
  | none => s
  | some c => (dcRecs s n).foldl (fun s e => if e.2.gen = c.2.gen then s else dcReplace e.1 e.2 { e.2 with valid := .void } s) s

/-- The DAWN_REPAIR record of one operation (Table 13-3). -/
def repairRecord (sector : Nat) (what : Byte) (s : State) : State :=
  diaryRaise 0xA002 (BitVec.ofNat 16 sector) [what] (modStor (fun x => { x with dawnRepair := true }) s)

/-- The copy of REMAP written last is not valid: Dawn takes the other one (R302). -/
def remapCut (s : State) : State :=
  modStor (fun x => if x.remapNext1 then { x with remap0 := none, remapNext1 := false } else { x with remap1 := none, remapNext1 := true }) s

/-- An interrupted operation is brought to the point where it stopped, and Dawn settles it (R306, R312–R314, R316, R302). -/
def storageSettle (s : State) : FlashCut → State
  | .page p off data f =>
    let s := psSlot p.val off data.length (psMerge (psContent s p.val).1 off.toNat data) (cutMark f) s
    let s := psCompact (psSettle (if slotCrcOk f then s else psRot p.val s))
    if slotRepaired f then repairRecord (psBase + areaOpen psLog s) 1 s else s
  | .increment n none => repairRecord (dcSectorOf s n) 2 (dcCompact (dcBit n (dcCarry n {} s)))
  | .increment n (some f) =>
    let s := dcBit n (dcCarry n {} s)
    let m := if slotCrcOk f then cutMark f else settleMark (cutMark f) false
    repairRecord (dcSectorOf s n) 3 (dcCompact (dcRetireLower n (dcSettle (dcCarry n m s))))
  | .remap => s
  | .optime => modStor (fun x => { x with optimeOk := false }) s
  | .diary _ => s
  | .journal => s

/-! ### Staging (R300, R302) -/

/-- The sectors that the storage manager allocates in staging: all but the first two, which hold the update records. -/
def stagingSector (k : Nat) : Nat := if k % 1022 < 510 then 770 + k % 1022 else 2816 + (k % 1022 - 510)
/-- `n` staging sectors are erased and programmed, in turn over the area (DESIGN CHOICE, log 37), past a sector under rewrite;
false where one fails and no reserve sector is left. -/
def stage : Nat → State → Bool × State
  | 0, s => (true, s)
  | n + 1, s =>
    let k := if rewriting s (stagingSector s.stor.stagingNext) then s.stor.stagingNext + 1 else s.stor.stagingNext
    let p := program (stagingSector k) (eraseNow (stagingSector k) (modStor (fun x => { x with stagingNext := (k + 1) % 1022 }) s))
    if p.1 then stage n p.2 else p

/-! ### Dusk and operating time (R316, R319) -/

/-- An erase in progress is abandoned. -/
def abandonErases (s : State) : State := modStor (fun x => { x with abandoned := x.abandoned ++ x.erasing, erasing := [] }) s

/-- The manager may write flash: it does not from the start of Dusk on (R319). -/
def flashUp (s : State) : Bool := s.up && s.sup.phase != .dusk

/-- OPTIME_UPDATE (R316). -/
def execOptimeUpdate (s : State) : Out := .next (if s.up then modStor (fun x => { x with optime := s.opMs, optimeOk := true }) s else s)
/-- OPERATING_MINUTES (R316): DCNT1 counts each 60 s of operating time. -/
def execOperatingMinutes (s : State) : Out :=
  .next (if flashUp s && decide (dcValue s 1 < s.opMs / 60000) then dcInc 1 s else s)

/-! ### Registers (Tables 12-9, 12-10) -/

/-- Highest erase count of an area as a percentage of 100,000, at most 255 (R320). -/
def wearPercent (s : State) (p : Nat → Bool) : Nat :=
  min 255 (s.stor.wear.foldl (fun m e => if p e.1 then max m (e.2 / 1000) else m) 0)
def thirtyDaysMs : Nat := 2592000000
def checkAge (s : State) : Nat := s.opMs - tget 0 s.stor.checkedMs s.stor.nextCheck

def storReg (s : State) (o : Nat) : Word :=
  match o with
  | 0x40 =>
    let free := (reserveFree s).length
    boolBit 7 (decide (free ≤ 16)) ||| boolBit 6 (decide (free = 0)) ||| boolBit 5 s.stor.psFallback
      ||| boolBit 4 (decide (thirtyDaysMs < checkAge s))
      ||| boolBit 3 (s.stor.erasing.any (fun x => isPs x || isDc x)) ||| boolBit 2 s.stor.refresh.isSome
      ||| boolBit 1 s.stor.dawnRepair ||| boolBit 0 s.stor.ready
  | 0x44 =>
    natAt 24 (wearPercent s (inArea 0 768)) ||| natAt 16 (wearPercent s (inArea 2048 768))
      ||| natAt 8 (wearPercent s (fun x => inArea 768 512 x || inArea 2816 512 x)) ||| natAt 0 (wearPercent s isPs)
  | 0x48 =>
    natAt 24 (wearPercent s isDiary) ||| natAt 16 (wearPercent s (inArea changeLogBase 32)) ||| natAt 8 (wearPercent s isDc)
      ||| natAt 0 (wearPercent s (fun x => inArea 1536 512 x || inArea 3904 192 x))
  | 0x4C => natAt 0 s.stor.remap.length
  | 0x50 => s.stor.refreshPass
  | 0x54 => s.stor.refreshed
  | 0x58 => natAt 0 (psErased s).length
  | 0x5C => satOf 32 (checkAge s / 3600000)
  | _ => 0

end Sys2Proof.Machine
end

