-- ==== Sys2Proof/Machine/Settings.lean ====
section
/-! DEFINITION. Settings in the module's own pages of the parameter store (R303, R305, Table 9-15). Which page holds which
setting is the model's choice (log 11): a setting stands in consecutive pages, its length in the first two bytes. -/

namespace Sys2Proof.Machine

/-- First page of a setting by its ID of Table 9-15; 64 holds the clock settings (R337), 80 the password hash (R269). -/
def settingPage (id : Nat) : Option Nat :=
  if 1 ≤ id ∧ id ≤ 5 then some id
  else if 0x10 ≤ id ∧ id ≤ 0x13 then some id
  else if 0x20 ≤ id ∧ id ≤ 0x27 then some (256 + 16 * (id - 0x20))
  else if id = 0x30 ∨ id = 0x31 then some id
  else none

def clockPage : Nat := 64
def passwordPage : Nat := 80

/-- Pages that a value of `n` bytes fills. -/
def valuePages (n : Nat) : Nat := (n + 257) / 256
/-- The value stored from page `p` on; none where nothing was ever written. -/
def pageValue (s : State) (p : Nat) : Option (List Byte) :=
  let n := field (psContent s p).1 0 2
  if n = 0xFFFF then none
  else
    let all := (List.range (valuePages n)).flatMap (fun i => (psContent s (p + i)).1)
    some ((all.drop 2).take n)

/-- The value may be written now: its page writes fit the rate of R310. -/
def pageRate (s : State) (v : List Byte) : Bool := !psRateOver s (valuePages v.length)
/-- Write a value by appended records, one for each page it fills: not in Dusk (R319), not above the rate of R310. -/
def setPageValue (p : Nat) (v : List Byte) (s : State) : State :=
  let bs := leBytes 2 v.length ++ v
  if s.sup.phase = .dusk ∨ !pageRate s v then s
  else (List.range (valuePages v.length)).foldl (fun s i => psWrite (p + i) 0 ((bs.drop (256 * i)).take 256) s) s
/-- The pages of a value are served: an older record that serves one is reported (R308). -/
def servePages (p : Nat) (s : State) : State :=
  match pageValue s p with
  | none => (psServe p s).2
  | some v => (List.range (valuePages v.length)).foldl (fun s i => (psServe (p + i) s).2) s
/-- At Dawn the services read the module's pages (R308, log 11). -/
def serveModulePages (s : State) : State :=
  ((((psRecs s).map (·.page)).eraseDups).filter (· < 1024)).foldl (fun s p => (psServe p s).2) s

def setting (s : State) (id : Nat) : Option (List Byte) := (settingPage id).bind (pageValue s)
def setSetting (id : Nat) (v : List Byte) (s : State) : State :=
  match settingPage id with
  | some p => setPageValue p v s
  | none => s

/-- FLOOD_POLICY FILL; a setting never written is 0 (log 4). -/
def floodFill (s : State) : Bool := (setting s 0x30).getD [] == [1]
/-- AUTO_CONFIRM_S. -/
def autoConfirmS (s : State) : Nat := ofLe ((setting s 0x31).getD [])
/-- REQUIRE_SIGNED. -/
def requireSigned (s : State) : Bool := (setting s 5).getD [] == [1]
/-- KEY0–KEY3; a slot never written, or holding 32 bytes of 0, is empty (R36). -/
def keySlot (s : State) (k : Nat) : Option (List Byte) :=
  match setting s (1 + k) with
  | some v => if v.all (· == 0) then none else some v
  | none => none
/-- TLS trust anchors in use (R234): a slot holding 1 byte of 0 is empty. -/
def anchors (s : State) : List (Nat × List Byte) :=
  (List.range 8).filterMap (fun k => match setting s (0x20 + k) with
    | some v => if v == [0] then none else some (k, v)
    | none => none)
/-- PPS_IN enable of the plant-side clock (Table 9-15). -/
def ppsInEnabled (s : State) : Bool := ((setting s 0x13).getD []).getD 2 0 == 1

end Sys2Proof.Machine
end

