-- ==== Sys2Proof/Machine/Calendar.lean ====
section
/-! DEFINITION. The calendar: Gregorian date arithmetic, WEEKDAY, the words it is read as and UTC (R336, R341, R344,
Tables 4-13, 14-2, 14-3). -/

namespace Sys2Proof.Machine

def leap (y : Nat) : Bool := y % 4 == 0 && (y % 100 != 0 || y % 400 == 0)
def monthLen (y m : Nat) : Nat :=
  match m with
  | 2 => if leap y then 29 else 28
  | 4 => 30 | 6 => 30 | 9 => 30 | 11 => 30
  | _ => 31

/-- Days from 2000-01-01 to the first of January of year `y`, for `y` at or above 2000. -/
def daysToYear (y : Nat) : Nat :=
  let n := y - 2000
  n * 365 + (n + 3) / 4 - (if n = 0 then 0 else (n - 1) / 100) + (if n = 0 then 0 else (n - 1) / 400)
def daysToMonth (y : Nat) : Nat → Nat
  | 0 => 0
  | 1 => 0
  | m + 2 => daysToMonth y (m + 1) + monthLen y (m + 1)
def dayNumber (c : Cal) : Nat := daysToYear c.year + daysToMonth c.year c.month + (c.day - 1)
/-- 1 Monday to 7 Sunday; 2000-01-01 was a Saturday. -/
def weekday (c : Cal) : Nat := (dayNumber c + 5) % 7 + 1
def secOfDay (c : Cal) : Nat := c.hour * 3600 + c.min * 60 + c.sec
/-- Seconds from 2000-01-01 00:00:00. -/
def calSeconds (c : Cal) : Nat := dayNumber c * 86400 + secOfDay c

/-- R341. -/
def calValid (c : Cal) : Bool :=
  decide (c.hour ≤ 23) && decide (c.min ≤ 59) && decide (c.sec ≤ 59) && decide (2000 ≤ c.year) && decide (c.year ≤ 4095)
    && decide (1 ≤ c.month) && decide (c.month ≤ 12) && decide (1 ≤ c.day) && decide (c.day ≤ monthLen c.year c.month)

def calEnd : Cal := ⟨4095, 12, 31, 23, 59, 59⟩

/-- The next day, at the same time of day. -/
def nextDay (c : Cal) : Cal :=
  if c.day < monthLen c.year c.month then { c with day := c.day + 1 }
  else if c.month < 12 then { c with day := 1, month := c.month + 1 }
  else { c with day := 1, month := 1, year := c.year + 1 }
def prevDay (c : Cal) : Cal :=
  if 1 < c.day then { c with day := c.day - 1 }
  else if 1 < c.month then { c with month := c.month - 1, day := monthLen c.year (c.month - 1) }
  else { c with year := c.year - 1, month := 12, day := 31 }

/-- One second more; the calendar stays at its end (R402). -/
def calInc (c : Cal) : Cal :=
  if c = calEnd then c
  else if c.sec < 59 then { c with sec := c.sec + 1 }
  else if c.min < 59 then { c with sec := 0, min := c.min + 1 }
  else if c.hour < 23 then { c with sec := 0, min := 0, hour := c.hour + 1 }
  else nextDay { c with sec := 0, min := 0, hour := 0 }

/-- One hour forward or back, carrying into the date (R344). -/
def calShift (fwd : Bool) (c : Cal) : Cal :=
  if fwd then (if c.hour < 23 then { c with hour := c.hour + 1 } else nextDay { c with hour := 0 })
  else (if 0 < c.hour then { c with hour := c.hour - 1 } else prevDay { c with hour := 23 })

/-- MS = ⌊prescaler × 1,000 / 32,768⌋ (Table 14-2). -/
def calMs (r : RtcSt) : Nat := r.prescaler * 1000 / 32768

/-- The CLKRD word (Table 4-13). -/
def clkWord (r : RtcSt) : Dword :=
  BitVec.ofNat 64 (r.valid.toNat * 2 ^ 63 + r.summer.toNat * 2 ^ 51 + weekday r.cal * 2 ^ 48 + r.cal.year * 2 ^ 36
    + r.cal.month * 2 ^ 32 + r.cal.day * 2 ^ 27 + r.cal.hour * 2 ^ 22 + r.cal.min * 2 ^ 16 + r.cal.sec * 2 ^ 10 + calMs r)

/-- RTC_TIME0 and RTC_TIME1 (Tables 14-2, 14-3). -/
def rtcTime0 (r : RtcSt) : Word := natAt 27 r.cal.hour ||| natAt 21 r.cal.min ||| natAt 15 r.cal.sec ||| natAt 5 (calMs r)
def rtcTime1 (r : RtcSt) : Word :=
  natAt 20 r.cal.year ||| natAt 16 r.cal.month ||| natAt 11 r.cal.day ||| natAt 8 (weekday r.cal) ||| boolBit 7 r.summer
    ||| boolBit 6 r.valid

/-- A staged time and date (RTC_SET0, RTC_SET1) as a calendar value. -/
def calOfSet (t d : Word) : Cal :=
  ⟨(d >>> 20).toNat, (d >>> 16).toNat % 16, (d >>> 11).toNat % 32, (t >>> 27).toNat, (t >>> 21).toNat % 64, (t >>> 15).toNat % 64⟩

/-- Seconds between 1970-01-01 and 2000-01-01. -/
def epoch2000 : Nat := 946684800

/-- UTC in ms since 1970: the calendar minus OFFSET minutes, minus 60 minutes while SUMMER (R336). -/
def utcMs (r : RtcSt) : Nat :=
  let secs : Int := (epoch2000 + calSeconds r.cal : Nat) - r.utcOfs.toInt * 60 - (if r.summer then 3600 else 0)
  (secs * 1000 + calMs r).toNat

/-- A calendar value from seconds since 2000-01-01, by stepping years, then months, then days. -/
def yearOf : Nat → Nat → Nat → Nat × Nat
  | 0, y, d => (y, d)
  | k + 1, y, d => let n := if leap y then 366 else 365; if d < n then (y, d) else yearOf k (y + 1) (d - n)
def monthOf : Nat → Nat → Nat → Nat → Nat × Nat
  | 0, _, m, d => (m, d)
  | k + 1, y, m, d => if d < monthLen y m then (m, d) else monthOf k y (m + 1) (d - monthLen y m)
def calOfSeconds (n : Nat) : Cal :=
  let yd := yearOf 2096 2000 (n / 86400)
  let md := monthOf 11 yd.1 1 yd.2
  let t := n % 86400
  ⟨yd.1, md.1, md.2 + 1, t / 3600, t / 60 % 60, t % 60⟩

end Sys2Proof.Machine
end

