-- ==== Sys2Proof/Machine/Diary.lean ====
section
/-! DEFINITION. The Diary (chapter 13): admission by bucket, journal, drain into the flash ring, victim choice, readers. -/

namespace Sys2Proof.Machine

def journalFree (s : State) : Nat := 8190 - s.diary.journal.length

/-- The control block is written: its copies in turn, UPDATE one up (R324). -/
def writeCtl (s : State) : State :=
  let d := s.diary
  let old := if ahead d.ctl0.update d.ctl1.update then d.ctl0 else d.ctl1
  let c : JournalCtl := ⟨d.nextSeq, d.drainSeq, d.writeSlot, old.update + 1, true⟩
  { s with diary := if ahead d.ctl0.update d.ctl1.update then { d with ctl1 := c } else { d with ctl0 := c } }

/-- Enter a record with the next SEQ and one instant's stamps (R322, R324), subject to the room left (R325). -/
def journalEnter (code inst : Half) (count : Nat) (summary late : Bool) (detail : List Byte) (s : State) : State :=
  let sev := severityOf code
  if journalFree s = 0 ∨ (journalFree s < 256 ∧ sev ≠ 3) then diaryDrop s
  else
    let flags : Byte := BitVec.ofNat 8 (sev + 4 * s.rtc.valid.toNat + 8 * summary.toNat + 16 * late.toNat)
    let r : DRec := ⟨s.diary.nextSeq, code, flags, s.opMs, powerCycles s, inst, BitVec.ofNat 16 count,
      if s.rtc.valid then utcMs s.rtc else 0, padTo 24 detail⟩
    let s := { s with
      diary := { s.diary with
        journal := s.diary.journal ++ [r], nextSeq := s.diary.nextSeq + 1, writeSlot := (s.diary.writeSlot + 1) % 8190 }
      sup := { s.sup with console := if 2 ≤ sev then s.sup.console + 1 else s.sup.console } }
    let s := writeCtl s
    if s.host.sevMin.toNat ≤ sev then setIrq 2 s else s

/-- With 512 slots free again, one RECORDS_LOST record stands for all records dropped (R325). -/
def recordsLost (s : State) : State :=
  if s.diary.lost = 0 ∨ journalFree s < 512 then s
  else
    let d := leBytes 4 s.diary.lost ++ [0, 0, 0, 0] ++ leBytes 8 s.diary.lostFirst ++ leBytes 8 s.diary.lostLast
    journalEnter 0xB001 noInst 1 false false d { s with diary := { s.diary with lost := 0 } }

def bucketOf (s : State) (code : Half) : Bucket := tget {} s.diary.buckets code.toNat
def setBucket (code : Half) (b : Bucket) (s : State) : State :=
  { s with diary := { s.diary with buckets := tset {} s.diary.buckets code.toNat b } }

/-- The SUMMARY record of a code (R331). -/
def enterSummary (code : Half) (s : State) : State :=
  let b := bucketOf s code
  if b.pending = 0 then s
  else journalEnter code noInst b.pending true false [] (setBucket code { b with pending := 0, since := 0 } s)

/-- Admission of one raised record (R331): FILL, Dusk, severity 3 and RECORDS_LOST take nothing from a bucket. -/
def admitRecord (r : Raised) (s : State) : State :=
  if s.diary.fill || s.sup.phase == .dusk || severityOf r.code == 3 || r.code == 0xB001 then
    journalEnter r.code r.inst 1 false r.late r.detail s
  else
    let b := bucketOf s r.code
    if b.spent < 64 then
      journalEnter r.code r.inst (1 + b.pending) false r.late r.detail
        (setBucket r.code { spent := b.spent + 1 } s)
    else
      let s := { s with diary := { s.diary with suppressed := satInc s.diary.suppressed } }
      let s := setBucket r.code { b with pending := b.pending + 1, since := if b.pending = 0 then s.opMs else b.since } s
      if b.pending + 1 = 65535 then enterSummary r.code s else s

/-- DIARY_ENTRY (R324): the record raised first. -/
def diaryEntry (s : State) : State :=
  match s.diary.raised with
  | [] => recordsLost s
  | r :: rest => recordsLost (admitRecord r { s with diary := { s.diary with raised := rest } })
def execDiaryEntry (s : State) : Out := .next (if s.up then diaryEntry s else s)

/-- Every record raised is entered (R329, at Dusk). -/
def enterAll (s : State) : State := s.diary.raised.foldl (fun s _ => diaryEntry s) s
/-- Every pending count above 0 is entered as a SUMMARY record (R331; at Dusk and, log 37, at a reset that is not chip-level). -/
def enterSummaries (s : State) : State := s.diary.buckets.foldl (fun s e => enterSummary (BitVec.ofNat 16 e.1) s) s

/-- BUCKET_REFILL (R331): for each whole second that the operating time has reached. -/
def execBucketRefill (s : State) : Out :=
  .next (if !s.up || decide (s.opMs / 1000 ≤ s.diary.refillS) then s else { s with diary := { s.diary with
    refillS := s.diary.refillS + 1
    buckets := (s.diary.buckets.map (fun e => (e.1, { e.2 with spent := e.2.spent - 1 }))).filter (fun e => !decide (e.2 = {})) } })

/-- SUMMARY (R331): the pending count has stood above 0 for 60 s without an admission. -/
def execSummary (code : Half) (s : State) : Out :=
  .next (if s.up && decide ((bucketOf s code).since + 60000 ≤ s.opMs) then enterSummary code s else s)

/-! ### The ring (R327, R330) -/

/-- The slots of a sector in order; none is a voided slot. -/
def ringSector (s : State) (i : Nat) : List (Option DRec) := tget [] s.diary.ring i
/-- The valid records of a sector. -/
def ringRecs (s : State) (i : Nat) : List DRec := (ringSector s i).filterMap id
def recSev (r : DRec) : Nat := r.flags.toNat % 4
def maxSev (rs : List DRec) : Nat := rs.foldl (fun m r => max m (recSev r)) 0
/-- How far a record's SEQ lies behind the next SEQ: larger is older. -/
def seqAge (s : State) (q : Word) : Nat := (s.diary.nextSeq - q).toNat
def sectorAge (s : State) (i : Nat) : Nat := (ringRecs s i).foldl (fun m r => min m (seqAge s r.seq)) (2 ^ 32)

/-- The victim of R330 among the sectors other than the head. -/
def ringVictim (s : State) : Option Nat :=
  let others := (List.range 512).filter (fun i => i != s.diary.head)
  match others.find? (fun i => (ringRecs s i).isEmpty) with
  | some i => some i
  | none =>
    let cand := others.filter (fun i => 64 ≤ (others.filter (fun j => decide (sectorAge s j < sectorAge s i))).length)
    leastBy (fun i => maxSev (ringRecs s i) * 2 ^ 40 + (2 ^ 33 - sectorAge s i)) cand

/-- Add 1 to the field of DIA_ERASED for a severity, saturating at 0xFF. -/
def countErased (sev : Nat) (w : Word) : Word :=
  let f : Byte := (w >>> (8 * sev)).setWidth 8
  (w &&& ~~~(0xFF#32 <<< (8 * sev))) ||| ((satInc f).setWidth 32 <<< (8 * sev))

/-- The ready sector becomes the head and a victim is erased to become the next ready sector (R330). -/
def ringAdvance (s : State) : State :=
  let s := { s with diary := { s.diary with head := s.diary.readySec } }
  match ringVictim s with
  | none => s
  | some i =>
    let rs := ringRecs s i
    beginErase (diaryBase + i) { s with diary := { s.diary with
      readySec := i, ring := tset [] s.diary.ring i []
      erased := if rs.isEmpty then s.diary.erased else countErased (maxSev rs) s.diary.erased } }

def headFull (s : State) : Bool := decide (1024 ≤ (ringSector s s.diary.head).length)
/-- A full head gives way as soon as the ready sector is erased (R330). -/
def ringTurn (s : State) : State :=
  let x := diaryBase + s.diary.readySec
  if headFull s && !s.stor.erasing.contains x && !s.stor.abandoned.contains x then ringAdvance s else s
/-- Program the next free slot: with a record, or void. -/
def ringSlot (x : Option DRec) (s : State) : State :=
  ringTurn { s with diary := { s.diary with ring := tmod [] s.diary.ring s.diary.head (fun l => l ++ [x]) } }

/-- A sector of the DIARY area is being rewritten (R326). -/
def diaryRewrite (s : State) : Bool := match s.stor.refresh with | some x => isDiary x.1 | none => false

/-- DIARY_DRAIN (R327): the oldest journal record goes to the head sector, its programs verified. Not from the start of Dusk
(R329), not while a sector of the area is rewritten (R326) or the full head waits for the ready sector. -/
def execDiaryDrain (s : State) : Out :=
  .next (
    if !flashUp s || diaryRewrite s || headFull s then s
    else match s.diary.journal with
      | [] => s
      | r :: rest =>
        let p := program (diaryBase + s.diary.head) s
        if !p.1 then p.2
        else
          let s := ringSlot (some r) p.2
          recordsLost (writeCtl { s with diary := { s.diary with journal := rest, drainSeq := r.seq + 1 } }))

/-- Journal records whose SEQ has a valid flash record count as drained (R328). -/
def dropDrained (s : State) : State :=
  let inFlash (q : Word) : Bool := s.diary.ring.any (fun e => e.2.any (fun x => match x with | some r => r.seq == q | none => false))
  let left := s.diary.journal.filter (fun r => !inFlash r.seq)
  { s with diary := { s.diary with
      journal := left, drainSeq := match left with | r :: _ => r.seq | [] => s.diary.nextSeq } }

/-- The control block in force at Dawn is the valid copy whose UPDATE is ahead; where the last one written was cut, the record
that it entered is not entered (R324). -/
def ctlCut (s : State) : State :=
  let d := s.diary
  let d := if ahead d.ctl0.update d.ctl1.update then { d with ctl0 := { d.ctl0 with valid := false } }
    else { d with ctl1 := { d.ctl1 with valid := false } }
  let c := if d.ctl0.valid then d.ctl0 else d.ctl1
  if !c.valid then { s with diary := d }
  else dropDrained { s with diary := { d with
    nextSeq := c.nextSeq, drainSeq := c.drainSeq, writeSlot := c.writeSlot
    journal := d.journal.filter (fun r => !(r.seq == c.nextSeq)) } }

/-- The Diary write that a reset interrupted is settled at Dawn (R328): the record that was under drain is completed where it
stands, else its slot is voided and the record is written again later. -/
def diarySettle (s : State) : FlashCut → State
  | .diary f =>
    match s.diary.journal with
    | [] => s
    | r :: _ =>
      if headFull s then s
      else
        let head := s.diary.head
        let stands := (settleMark (cutMark f) (slotCrcOk f)).sound
        let s := dropDrained (ringSlot (if stands then some r else none) s)
        if slotRepaired f then repairRecord (diaryBase + head) 5 s else s
  | .journal => ctlCut s
  | _ => s

/-! ### Readers (R332–R334) -/

def present (s : State) : List DRec := s.diary.ring.flatMap (fun e => e.2.filterMap id) ++ s.diary.journal
def diaHead (s : State) : Word := s.diary.nextSeq - 1
/-- The SEQ of the oldest present record; a free value before the first (log 3). -/
def diaOldest (s : State) : Word :=
  match (present s).foldl (fun b r => match b with
      | none => some r.seq
      | some q => if seqAge s q < seqAge s r.seq then some r.seq else b) none with
  | some q => q
  | none => Config.freeWord s.free

/-- The present record of the snapshot with the lowest SEQ at or after `q` (R332), and its GAP. -/
def diaFind (s : State) (head oldest q : Word) : Option (DRec × Nat) :=
  let inside := decide ((q - oldest).toNat ≤ (head - oldest).toNat)
  if !inside && decide ((head - q).toNat ≥ 2 ^ 31) then none
  else
    let from_ := if inside then q else oldest
    let c := (present s).filter (fun r => decide ((r.seq - oldest).toNat ≤ (head - oldest).toNat)
      && decide ((r.seq - from_).toNat < 2 ^ 31))
    (c.foldl (fun b r => match b with
      | none => some r
      | some x => if (r.seq - from_).toNat < (x.seq - from_).toNat then some r else b) none).map
      (fun r => (r, (r.seq - q).toNat))

def rdIdle : BitVec 3 := 0
def rdBusy : BitVec 3 := 1
def rdReady : BitVec 3 := 2
def rdEnd : BitVec 3 := 3
def rdNoSnap : BitVec 3 := 4
def rdNotReady : BitVec 3 := 5

/-- A request for a SEQ: BUSY until the load is done; NO_SNAP and NOT_READY at once (R332, R333). -/
def diaRequest (ready : Bool) (q : Word) (r : DiaReader) : DiaReader :=
  if !ready then { r with result := rdNotReady, request := none }
  else if r.snap.isNone then { r with result := rdNoSnap, request := none }
  else if r.empty then { r with result := rdEnd, request := none }
  else { r with result := rdBusy, request := some q }

/-- The load completes (R333): DIA_RECORD changes only when it reaches READY. -/
def diaLoad (s : State) (r : DiaReader) : DiaReader :=
  match r.request, r.snap with
  | some q, some (head, oldest) =>
    match diaFind s head oldest q with
    | some (x, gap) => { r with request := none, result := rdReady, gap := satOf 16 gap, record := some x }
    | none => { r with request := none, result := rdEnd }
  | _, _ => r

def setReader (r : DiaReader) (s : State) : State := { s with diary := { s.diary with host := r } }

/-- The snapshot of a reader (R332). -/
def diaLatch (s : State) (r : DiaReader) : DiaReader :=
  { r with snap := some (diaHead s, diaOldest s), empty := (present s).isEmpty }
/-- DIA_SNAP (R332). -/
def diaSnap (s : State) : State :=
  if !s.up then s
  else { s with free := s.free + 1, diary := { s.diary with host := diaLatch s s.diary.host } }
def execDiaSnap (s : State) : Out := .next (diaSnap s)

/-- DIA_NEXT: the record at the SEQ of DIA_RECORD + 1. -/
def diaNext (s : State) : State :=
  if !s.up then s
  else setReader (diaRequest s.diary.ready ((match s.diary.host.record with | some r => r.seq | none => 0) + 1) s.diary.host) s
def execDiaNext (s : State) : Out := .next (diaNext s)

/-- DIA_CURSOR_WRITE: the record at the SEQ written. -/
def diaCursorWrite (seq : Word) (s : State) : State :=
  if !s.up then s
  else
    let r := diaRequest s.diary.ready seq s.diary.host
    setReader { r with cursor := seq } s
def execDiaCursorWrite (seq : Word) (s : State) : Out := .next (diaCursorWrite seq s)

/-- DIARY_LOAD_DONE (R333). -/
def execDiaryLoadDone (s : State) : Out := .next (setReader (diaLoad s s.diary.host) s)

/-- A record in the layout of Table 13-1. -/
def recBytes (r : DRec) : List Byte :=
  let b := wordBytes r.seq ++ halfBytes r.code ++ [BitVec.ofNat 8 (r.code.toNat / 4096), r.flags] ++ leBytes 8 r.opMs
    ++ leBytes 4 r.cycles ++ halfBytes r.inst ++ halfBytes r.count ++ leBytes 8 r.utcMs ++ padTo 24 r.detail
  b ++ wordBytes (crc32c b) ++ [0x5A, 0xA5, 0, 0]

/-- The Diary window at byte offset `o` from 0x2000 (Tables 13-4 to 13-7). -/
def diaryReg (s : State) (o : Nat) : Word :=
  let h := s.diary.host
  match o with
  | 0x00 => boolBit 3 s.diary.fill ||| boolBit 2 (decide (journalFree s < 256)) ||| boolBit 1 (!s.diary.journal.isEmpty)
      ||| boolBit 0 s.diary.ready
  | 0x04 => diaHead s
  | 0x08 => diaOldest s
  | 0x0C => natAt 0 (present s).length
  | 0x10 => natAt 0 s.diary.journal.length
  | 0x14 => s.diary.dropped
  | 0x18 => s.diary.suppressed
  | 0x1C => s.diary.erased
  | 0x24 => match h.snap with | some p => p.1 | none => 0
  | 0x28 => match h.snap with | some p => p.2 | none => 0
  | 0x2C => h.cursor
  | 0x30 => atBit 16 h.gap ||| atBit 0 h.result
  | _ =>
    if 0x40 ≤ o ∧ o < 0x80 then match h.record with | some r => fieldW (recBytes r) (o - 0x40) | none => 0 else 0

end Sys2Proof.Machine
end

