-- ==== Sys2Proof/Machine/Stream.lean ====
section
/-! DEFINITION. The Trelex stream of the active module and what the standby takes from it: record and frame building,
input words as they are written, reads that the standby repeats (R282–R285, Tables 11-5, 11-6, 11-14). -/

namespace Sys2Proof.Machine

/-! ### Roles -/

def RedPhase.code : RedPhase → Nat
  | .single => 0 | .arbitrating => 1 | .active => 2 | .held => 3 | .syncing => 4 | .comparing => 5 | .ready => 6 | .disqualified => 7
def IlRead.code : IlRead → Nat
  | .open_ => 0 | .released => 1 | .held => 2 | .short => 3

/-- The standby's tasks run on the stream (Table 11-1). -/
def standby (s : State) : Bool := s.red.st == .comparing || s.red.st == .ready
/-- The module's tasks run on its own inputs: SINGLE or ACTIVE (Table 11-1). -/
def ownTiming (s : State) : Bool := s.red.st == .single || s.red.st == .active
/-- The active module streams from the cut of the standby's resynchronisation on (Table 11-9). -/
def streaming (s : State) : Bool := s.red.st == .active && s.red.linkUp && s.red.cutNs.isSome
/-- The module forms a pair: PAIR = 1 on a variant with the redundancy controller (R7, R273). -/
def pairOn (s : State) : Bool := s.up && s.run.pair && s.variant.redundancy
/-- R8, R294: the partner's variant and pair protocol. -/
def compatible (s : State) (h : HelloMsg) : Bool := h.variant == s.variant.code && h.protocol == Config.pairProtocol
/-- The module refuses its partner under R8 and stays single (R289): DISQ_CAUSE INCOMPATIBLE, and no other partner has come. -/
def refused (s : State) : Bool := match s.red.partner with | some h => !compatible s h | none => s.red.disq == 7
/-- Loads and edits go with the partner (R46, R166). -/
def pairLoads (s : State) : Bool := pairOn s && !refused s
/-- A READY standby is linked that R8 does not refuse. -/
def partnerReady (s : State) : Bool :=
  s.red.linkUp && (match s.red.partner with | some h => h.state == 6 && compatible s h | none => false)

/-- Change RED_STATUS.STATE or OE; the PAIR interrupt reports it (Table 16-15). -/
def setRed (st : RedPhase) (token oe : Bool) (s : State) : State :=
  let ch := decide (s.red.st ≠ st) || s.red.oe != oe
  let s := { s with red := { s.red with st := st, token := token, oe := oe } }
  if ch then setIrq 3 s else s

/-! ### Frames and records -/

/-- The bytes of a frame (Table 11-5). -/
def trelexBytes (retrans : Bool) (seq ack gen : Word) (recs : List Byte) : List Byte :=
  let b := [1, if retrans then 1 else 0] ++ leBytes 2 recs.length ++ wordBytes seq ++ wordBytes ack ++ wordBytes gen ++ recs
  b ++ wordBytes (crc32c b)

/-- Close the frame being filled and send it (R283); nothing to close when no record waits. -/
def trelexClose (s : State) : State :=
  if s.red.filling = [] ∨ !s.red.linkUp then s
  else
    let q := s.red.scanSeq + 1
    let both := s.red.l0Up && s.red.l1Up
    let l1 := if both then s.red.nextL1 else s.red.l1Up
    let f : SentFrame := ⟨q, trelexBytes false q (s.red.rxSeq.getD 0) s.gen s.red.filling, l1, s.now⟩
    { s with red := { s.red with
        scanSeq := q, filling := [], sent := some f
        unacked := (s.red.unacked ++ [f]).drop (s.red.unacked.length - 127)
        nextL1 := if both then !s.red.nextL1 else s.red.nextL1 } }

/-- `a` is `b` or a number before it, modulo 2^32 (R283). -/
def seqUpTo (a b : Word) : Bool := decide ((b - a).toNat < 2 ^ 31)
/-- The record begins the frame after the last, or is the next of the frame that is arriving (R283). A frame that comes early is not
taken and not acknowledged, so it is sent again (log 34). -/
def inOrder (rx : TrelexRx) (s : State) : Bool :=
  if rx.index = 0 then (match s.red.rxSeq with | none => true | some q => rx.seq == q + 1)
  else rx.seq == s.red.rxCur && rx.index == s.red.rxNext
/-- A frame is delivered: it is acknowledged from now on, and the frames that its ACK_SEQ covers leave the buffer. -/
def heard (rx : TrelexRx) (s : State) : State :=
  { s with red := { s.red with
      rxSeq := some rx.seq, rxCur := rx.seq, rxNext := 0, frame := [], frameBad := false
      unacked := s.red.unacked.filter (fun f => !seqUpTo f.seq rx.ack) } }
/-- A record of a frame that goes on, or the last of a frame that is discarded. -/
def noteRecord (rx : TrelexRx) (recs : List PartnerRec) (good : Bool) (s : State) : State :=
  { s with red := { s.red with
      rxCur := rx.seq, rxNext := if rx.last then 0 else rx.index + 1, frame := if rx.last then [] else recs
      frameBad := !rx.last && !good } }
/-- A record arrives. The records of a frame take effect together, in their order, when its last one has come. A frame whose CRC is
wrong, or of which a record has a KIND, TYPE or body length that is not allowed (`ok` false), is discarded whole and not acknowledged
(R282, R283). -/
def trelexRecord (rx : TrelexRx) (ok : Bool) (i : PartnerRec) (run : PartnerRec → State → State) (s : State) : Out :=
  .next (
    if pairOn s && s.red.linkUp && inOrder rx s then
      let recs := (if rx.index = 0 then [] else s.red.frame) ++ [i]
      let good := (decide (rx.index = 0) || !s.red.frameBad) && rx.crcOk && ok
      if rx.last && good then recs.foldl (fun s i => run i s) (heard rx s) else noteRecord rx recs good s
    else s)

/-- Append a record to the frame being filled; a frame holds at most 2,032 record bytes (Table 11-5). -/
def sendRecord (kind : Byte) (body : List Byte) (s : State) : State :=
  if !s.red.linkUp then s
  else
    let r := [kind, 0] ++ leBytes 2 body.length ++ body
    let s := if 2032 < s.red.filling.length + r.length then trelexClose s else s
    { s with red := { s.red with filling := s.red.filling ++ r } }

def emit (kind : Byte) (body : List Byte) (s : State) : State := if streaming s then sendRecord kind body s else s

/-- A CONTROL message (Table 11-18). -/
def control (type_ : Byte) (msg : List Byte) (s : State) : State := sendRecord 8 ([type_, 0, 0, 0] ++ msg) s

def entryBytes (n : Nat) (w : ImgWord) : List Byte := leBytes 4 n ++ wordBytes w.data ++ wordBytes w.tag

/-- TRIGGER words of Table 5-3. -/
def trigInput (n : Nat) : Word := natAt 24 1 ||| natAt 0 n
def trigQual (n : Nat) : Word := natAt 24 2 ||| natAt 0 n
def trigDone (t : Nat) : Word := natAt 24 3 ||| natAt 0 t
def trigAlarm (n : Nat) : Word := natAt 24 4 ||| natAt 0 n
def trigStation (n : Nat) : Word := natAt 24 5 ||| natAt 0 n
def trigHost (n : Nat) : Word := natAt 24 6 ||| natAt 0 n

/-- The changes that a write of IWn makes, for the event tasks that name them (Table 5-3). -/
def noteChange (n : Nat) (old new : ImgWord) (s : State) : State :=
  let named (t : Word) : Bool := taskIds.any (fun k => (s.tcfg k).kind == 2 && (s.tcfg k).trigger == t)
  let ev := (if old.data ≠ new.data then [trigInput n] else []) ++ (if (old.tag ^^^ new.tag) &&& 3 ≠ 0 then [trigQual n] else [])
  if s.running && ownTiming s then { s with img := { s.img with events := s.img.events ++ ev.filter named } } else s
/-- The hub or the network engine has written fresh words: the reflex tasks that they trigger (R72). -/
def noteTriggers (ns : List Nat) (s : State) : State :=
  let ts := taskIds.filter (fun t => (s.tcfg t).kind == 3 && ns.contains (s.tcfg t).trigger.toNat)
  if s.running && ownTiming s then { s with img := { s.img with arrivals := s.img.arrivals ++ ts.map (fun t => (t, s.now)) } } else s

/-- A word written into the live input image by the hub, the network engine, the host queue or the Trelex queue. -/
def putIw (n : Nat) (w : ImgWord) (s : State) : State :=
  emit 1 (entryBytes n w) (noteChange n (s.iwGet n) w (s.setIw n w))
/-- The end of a writer's refresh: 0 hub, 1 network engine with its station, 2 host queue, 3 Trelex queue. -/
def emitRefresh (writer station : Nat) (s : State) : State :=
  emit 2 [BitVec.ofNat 8 station, 0, 0, BitVec.ofNat 8 writer] s
def markBody (t : Nat) (kind : Byte) (act : Word) : List Byte := [BitVec.ofNat 8 t, kind, 0, 0] ++ wordBytes act
def emitMark (t : Nat) (kind : Byte) (act : Word) (s : State) : State := emit 3 (markBody t kind act) s

/-- Changes that the next DELTA record carries (R266, R286): the newest of each object, and every frame sent. -/
def addDelta (es : List DeltaEntry) (s : State) : State :=
  if streaming s then
    let keep := s.red.delta.filter (fun d => d.kind == 4 || es.all (fun e => e.kind != d.kind || e.index != d.index))
    { s with red := { s.red with delta := keep ++ es } }
  else s
/-- A DELTA record (Table 11-15). -/
def deltaBytes (e : DeltaEntry) : List Byte := [e.kind, 0] ++ halfBytes e.index ++ padTo 12 e.state
def emitDelta (task : Nat) (act : Word) (es : List DeltaEntry) (s : State) : State :=
  if es = [] then s
  else emit 5 ([BitVec.ofNat 8 task, 0, 0, 0] ++ wordBytes act ++ es.flatMap deltaBytes) s

/-- The input word that a task reads: the replica in a standby (R285). -/
def inputOf (s : State) (n : Nat) : ImgWord := if standby s then tget {} s.red.replica n else s.iwGet n

/-! ### Reads that the stream carries (Table 11-14) -/

def readIndex (s : State) (t kind lesson : Nat) : Nat :=
  match s.red.taken.find? (fun e => e.1 == (t, kind, lesson)) with | some e => e.2 | none => 0
def bumpRead (t kind lesson n : Nat) (s : State) : State :=
  let i := readIndex s t kind lesson
  { s with red := { s.red with
      taken := ((t, kind, lesson), i + n) :: s.red.taken.filter (fun e => e.1 != (t, kind, lesson)) } }
/-- The i-th value of a sequence, when its record has arrived. -/
def streamRead (s : State) (t kind lesson i : Nat) : Option Dword :=
  s.red.reads.findSome? (fun e =>
    let r := e.2
    if e.1 = (s.task t).actCnt ∧ r.task.val = t ∧ r.kind.toNat = kind ∧ r.lesson.toNat = lesson ∧ r.first.toNat ≤ i then r.values[i - r.first.toNat]?
    else none)
/-- Records of at most 252 values with ascending FIRST. -/
def emitReads (t kind lesson first : Nat) (vs : List Dword) (s : State) : State :=
  (List.range ((vs.length + 251) / 252)).foldl (fun s k =>
    let part := (vs.drop (252 * k)).take 252
    emit 4 ([BitVec.ofNat 8 t, BitVec.ofNat 8 kind] ++ leBytes 2 lesson ++ leBytes 2 (first + 252 * k)
      ++ leBytes 2 part.length ++ part.flatMap (fun v => leBytes 8 v.toNat)) s) s

/-- A list of reads: the standby takes them from the stream, and waits (none) while one has not arrived; the active module
sends what it read. -/
def takeReads (t kind lesson : Nat) (own : List Dword) (s : State) : Option (List Dword × State) :=
  let i := readIndex s t kind lesson
  if standby s then
    match (List.range own.length).mapM (fun k => streamRead s t kind lesson (i + k)) with
    | some vs => some (vs, bumpRead t kind lesson own.length s)
    | none => none
  else if streaming s then some (own, bumpRead t kind lesson own.length (emitReads t kind lesson i own s))
  else some (own, s)

/-- The sequences of a task start again with its activation. -/
def resetReads (t : Nat) (s : State) : State :=
  { s with red := { s.red with taken := s.red.taken.filter (fun e => e.1.1 != t) } }
/-- The records of an activation that has ended are used up. -/
def dropReads (t : Nat) (act : Word) (s : State) : State :=
  { s with red := { s.red with reads := s.red.reads.filter (fun e => e.2.task.val != t || e.1 != act) } }

end Sys2Proof.Machine
end

