-- ==== Sys2Proof/Machine/Judge.lean ====
section
/-! DEFINITION. The standby's judgement of its batches against the active module's COMPARE records, its Report Card and the way
to READY (R288, R296, Table 11-12). -/

namespace Sys2Proof.Machine

/-- Disqualifications within the last 3,600 s of operating time. -/
def disqHour (s : State) : Nat := (s.red.disqAt.filter (fun t => decide (s.opMs < t + 3600000))).length

/-- The 16 words of the Report Card (Table 11-12). -/
def ownCard (s : State) : List Word :=
  [natAt 28 s.red.st.code ||| atBit 24 s.red.disq, s.red.compared, s.run.compare, s.red.mismatches, s.red.mmWhere, s.red.mmAct,
   s.red.mmAData, s.red.mmATag, s.red.mmSData, s.red.mmSTag, s.red.lagMax, s.red.resyncMs, s.red.resyncs,
   atBit 16 s.red.missTotal ||| atBit 0 s.red.seen, natAt 0 (disqHour s), BitVec.ofNat 32 s.opMs]

/-- The standby updates its Report Card and sends it (REPORT, R282). -/
def sendCard (s : State) : State :=
  let c := ownCard s
  sendRecord 9 (c.flatMap wordBytes) { s with red := { s.red with card := c } }

/-- Cut a list into parts of at most `n`, with the index of each part's first element. -/
def parts {α : Type} (n : Nat) (l : List α) : List (Nat × List α) :=
  (List.range ((l.length + n - 1) / n)).map (fun k => (n * k, (l.drop (n * k)).take n))

def batchCrc (es : List (Nat × ImgWord)) : Word := crc32c (es.flatMap (fun e => entryBytes e.1 e.2))

/-- R296: enough matching activations, and one of every task of KIND 1 or 4 since the cut. -/
def maybeReady (s : State) : State :=
  let all := taskIds.all (fun t => !((s.tcfg t).kind == 1 || (s.tcfg t).kind == 4) || s.red.matched.getLsbD t)
  if s.red.st = .comparing ∧ s.run.compare.toNat ≤ s.red.compared.toNat ∧ all then sendCard (setRed .ready false false s) else s

def compareBytes (t cause result : Byte) (act crcA crcS : Word) : List Byte :=
  [t, cause, 1, result] ++ wordBytes act ++ wordBytes crcA ++ wordBytes crcS ++ [0, 0, 0, 0]

/-- Judge one batch of the standby against the active module's COMPARE record (R288). -/
def judgeCompare (r : CompareRec) (at_ : Nat) (b : KeptBatch) (s : State) : State :=
  let crc := batchCrc b.entries
  let t : Byte := BitVec.ofNat 8 r.task.val
  let rest := s.red.compares.filter (fun e => e.1 != r)
  if crc = r.crcActive ∧ (r.stopCause == 0) = (b.cause == 0) then
    let s := { s with red := { s.red with
      compares := rest, compared := satInc s.red.compared, matched := s.red.matched ||| boolBit r.task.val true } }
    let s := { s with red := { s.red with card := ownCard s } }
    maybeReady (sendRecord 6 (compareBytes t b.cause 1 r.act r.crcActive crc) s)
  else
    let first := decide (s.red.mismatches = 0)
    let s := { s with red := { s.red with
      compares := rest ++ [({ r with result := 2 }, at_)], mismatches := satInc s.red.mismatches, fetched := []
      mmWhere := if first then natAt 24 r.task.val else s.red.mmWhere, mmAct := if first then r.act else s.red.mmAct } }
    let s := sendRecord 6 (compareBytes t b.cause 2 r.act r.crcActive crc) s
    control 8 ([t, 0, 0, 0] ++ wordBytes r.act) s

/-- Every COMPARE record whose activation has ended here is judged. -/
def settleCompares (s : State) : State :=
  if !standby s then s
  else s.red.compares.foldl (fun s e =>
    match s.red.kept.find? (fun b => b.task == e.1.task.val && b.act == e.1.act) with
    | some b => if e.1.result == (2 : Byte) || !standby s then s else judgeCompare e.1 e.2 b s
    | none => s) s

end Sys2Proof.Machine
end

