-- ==== Sys2Proof/Machine/Flags.lean ====
section
/-! DEFINITION. The tag of an image word field by field (Table 5-14) and the packing of the task and region status
registers (Tables 5-4 to 5-6, 2-21 to 2-23, 4-16). -/

namespace Sys2Proof.Machine

/-! ### Tags (Table 5-14) -/

def tagQual (t : Word) : BitVec 2 := t.extractLsb' 0 2
def tagForced (t : Word) : Bool := t.getLsbD 2
def tagSim (t : Word) : Bool := t.getLsbD 3
def tagHold (t : Word) : Bool := t.getLsbD 4
def tagGlide (t : Word) : Bool := t.getLsbD 5
def tagAge (t : Word) : Byte := t.extractLsb' 8 8
def tagGroup (t : Word) : BitVec 12 := t.extractLsb' 16 12
def tagOrigin (t : Word) : BitVec 4 := t.extractLsb' 28 4

/-- The tag with every field given; bits [7:6] are 0 (R130). -/
def mkTag (origin : BitVec 4) (group : BitVec 12) (age : Byte) (glide hold sim forced : Bool) (qual : BitVec 2) : Word :=
  atBit 28 origin ||| atBit 16 group ||| atBit 8 age ||| boolBit 5 glide ||| boolBit 4 hold ||| boolBit 3 sim
    ||| boolBit 2 forced ||| atBit 0 qual

def tagSetAge (t : Word) (a : Byte) : Word := (t &&& 0xFFFF00FF) ||| atBit 8 a
def tagSetGroup (t : Word) (g : BitVec 12) : Word := (t &&& 0xF000FFFF) ||| atBit 16 g
def tagSetQual (t : Word) (q : BitVec 2) : Word := (t &&& 0xFFFFFFFC) ||| atBit 0 q
def tagSetGlide (t : Word) : Word := t ||| 0x20
/-- One source update period more, saturating at 255 (R129). -/
def tagOlder (t : Word) : Word := tagSetAge t (satInc (tagAge t))
/-- Bits [7:6] are 0 at every hop (R130). -/
def tagClean (t : Word) : Word := t &&& 0xFFFFFF3F

def qGood : BitVec 2 := 0
def qUncertain : BitVec 2 := 1
def qSubstitute : BitVec 2 := 2
def qBad : BitVec 2 := 3
/-- The worse of two QUAL codes (R128: GOOD, UNCERTAIN, SUBSTITUTE, BAD). -/
def qWorst (a b : BitVec 2) : BitVec 2 := if a.toNat ≤ b.toNat then b else a

/-- The tag that a read without a routed word returns: QUAL BAD, every other field 0 (R97, R98). -/
def badTag : Word := 0x00000003

/-! ### Task registers -/

def TaskState.code : TaskState → Nat
  | .unused => 0 | .idle => 1 | .rollCall => 2 | .running => 3 | .publish => 4 | .recess => 5 | .stopped => 6 | .fault => 7

def RegionState.code : RegionState → Nat
  | .unused => 0 | .idle => 1 | .running => 2 | .recess => 3 | .stopped => 4 | .loading => 5 | .selftest => 6 | .fault => 7

/-- TT_STATUS (Table 5-5). -/
def ttStatus (c : TaskCfg) (t : TaskSt) : Word :=
  natAt 28 t.st.code ||| atBit 24 t.cause ||| natAt 21 (c.kind.toNat % 8) ||| natAt 18 (c.prio.toNat % 8)
    ||| boolBit 17 t.pending ||| boolBit 16 t.simIn

/-- Bits of TASK_FAULT (Tables 4-16, 5-6). -/
def tfArith : Nat := 0
def tfTimer : Nat := 1
def tfImage : Nat := 2
def tfRetainLost : Nat := 26
def tfNanBad : Nat := 27
def tfForeign : Nat := 28
def tfOverrun : Nat := 29
def tfOvrStop : Nat := 30
def tfWatchdog : Nat := 31
/-- The bits that writing 1 clears. -/
def tfW1c : Word := 0xFC000007

/-- The dword of a task's block at byte offset `o` (Table 5-4); all 0 for KIND 0 (R116). -/
def taskReg (c : TaskCfg) (t : TaskSt) (o : Nat) : Word :=
  if c.kind = 0 then 0 else
  match o with
  | 0x00 => ttStatus c t
  | 0x04 => t.actCnt
  | 0x08 => t.lastNs
  | 0x0C => t.maxNs
  | 0x10 => t.skipped
  | 0x14 => t.fault
  | 0x18 => atBit 16 t.consec ||| atBit 0 t.merged
  | 0x1C => t.foreign
  | _ => 0

/-! ### Region registers -/

/-- RG_STATUS (Table 2-22). -/
def rgStatus (r : RegionSt) : Word :=
  natAt 12 r.st.code ||| boolBit 8 r.plane1 ||| boolBit 7 r.shadowReady

/-- RG_FAULT for a cause with its place (Table 2-23). `addr` is block<<7 | cluster<<3 | cell. -/
def rgFaultCell (cause : Nat) (plane : Bool) (addr : Nat) : Word :=
  natAt 28 cause ||| boolBit 27 plane ||| natAt 21 (addr / 128 % 64) ||| natAt 17 (addr / 8 % 16) ||| natAt 14 (addr % 8)
def rgFaultBlock (cause : Nat) (plane : Bool) (block rword : Nat) : Word :=
  natAt 28 cause ||| boolBit 27 plane ||| natAt 21 (block % 64) ||| natAt 6 (rword % 256)

/-- The dword of a region's status block at byte offset `o` (Table 2-21). -/
def regionReg (owner : Option Nat) (r : RegionSt) (o : Nat) : Word :=
  match o with
  | 0x00 => rgStatus r
  | 0x04 => natAt 0 (owner.getD 0xFF)
  | 0x08 => r.gen
  | 0x0C => r.shadowGen
  | 0x10 => r.scrubPass
  | 0x14 => r.scrubCorr
  | 0x18 => r.fault
  | 0x1C => r.loadRetry
  | _ => 0

end Sys2Proof.Machine
end

