-- ==== Sys2Proof/Machine/TimerBank.lean ====
section
/-! DEFINITION. The timer bank: how a timer takes its reset and IN, how it counts a tick, what it presents (Table 3-5,
R65, R104, R105, R405). -/

namespace Sys2Proof.Machine

def kTON : BitVec 2 := 0
def kTOF : BitVec 2 := 1
def kTP : BitVec 2 := 2
def kRTO : BitVec 2 := 3

/-- Elapsed time stops here and SAT reads 1 (R105). -/
def elapsedMax : BitVec 48 := BitVec.allOnes 48

/-- Q from the rest of the timer's state (Table 3-5). -/
def timerQ (t : TimerSt) : Bool :=
  if t.kind = kTON then t.inp && !t.rst && decide (t.preset.toNat ≤ t.elapsed.toNat)
  else if t.kind = kTOF then t.inp || (!t.rst && t.run && decide (t.elapsed.toNat < t.preset.toNat))
  else if t.kind = kTP then t.run && decide (t.elapsed.toNat < t.preset.toNat)
  else !t.rst && decide (t.preset.toNat ≤ t.elapsed.toNat)

/-- End a pulse that has reached its preset: elapsed stays at the preset while IN is 1, and returns to 0 at IN 0 (R405). -/
def timerPulseEnd (t : TimerSt) : TimerSt :=
  if t.kind = kTP && t.run && decide (t.preset.toNat ≤ t.elapsed.toNat) then
    { t with run := false, elapsed := if t.inp then t.preset else 0 }
  else t

/-- The timer with its pulse settled and Q presented. -/
def timerSettle (t : TimerSt) : TimerSt :=
  let t := timerPulseEnd t
  { t with q := timerQ t }

/-- A change of IN while reset is 0 (Table 3-5). -/
def timerNewIn (t : TimerSt) (v : Bool) : TimerSt :=
  if t.kind = kTON then { t with inp := v, elapsed := 0, run := v, sat := false }
  else if t.kind = kTOF then { t with inp := v, elapsed := 0, run := !v, sat := false }
  else if t.kind = kTP then
    if v && !t.run then { t with inp := v, elapsed := 0, run := true, sat := false }
    else if !v && !t.run then { t with inp := v, elapsed := 0 }
    else { t with inp := v }
  else { t with inp := v, run := v }

/-- The reset value taken (R405): at 1 the timer is cleared; at its return to 0 a TON, TOF and RTO take IN as if it had
just changed. -/
def timerNewRst (t : TimerSt) (v : Bool) : TimerSt :=
  if v then { t with rst := true, elapsed := 0, run := false, sat := false }
  else if t.rst then
    let t := { t with rst := false }
    if t.kind = kTP then t else if t.kind = kTOF then { t with run := !t.inp } else { t with run := t.inp }
  else t

/-- One edge that brings a new reset, a new IN, or both: the reset first, then IN (R405). -/
def timerEdge (t : TimerSt) (newIn newRst : Option Bool) : TimerSt :=
  let t := match newRst with | none => t | some v => timerNewRst t v
  let t := match newIn with
    | none => t
    | some v => if t.rst then { t with inp := v } else if t.inp = v then t else timerNewIn t v
  timerSettle t

/-- A new preset applies at once (R104). -/
def timerPreset (t : TimerSt) (p : BitVec 48) : TimerSt := timerSettle { t with preset := p }

/-- One tick of the bank (R405, R105). -/
def timerTick (t : TimerSt) : TimerSt :=
  if t.run then
    if t.elapsed = elapsedMax then timerSettle { t with sat := true }
    else
      let e := t.elapsed + 1
      timerSettle { t with elapsed := e, sat := t.sat || decide (e = elapsedMax) }
  else t

/-- A running timer whose elapsed time is below its preset reaches it (TIMER_EXPIRY). -/
def timerExpire (t : TimerSt) : TimerSt :=
  if t.run && decide (t.elapsed.toNat < t.preset.toNat) then timerSettle { t with elapsed := t.preset, sat := t.sat || decide (t.preset = elapsedMax) } else t

/-- A running timer reaches 2^48 − 1 µs (TIMER_SATURATION). -/
def timerSaturate (t : TimerSt) : TimerSt :=
  if t.run then timerSettle { t with elapsed := elapsedMax, sat := true } else t

/-- TIMER_EXPIRY (R105, R405). -/
def execTimerExpiry (n : Fin 8192) (s : State) : Out :=
  .next (s.setTimer n (timerExpire (s.timer n)))

/-- TIMER_SATURATION (R105). -/
def execTimerSaturation (n : Fin 8192) (s : State) : Out :=
  .next (s.setTimer n (timerSaturate (s.timer n)))

/-- The word TRD returns (Table 4-12). -/
def timerWord (t : TimerSt) : Dword :=
  (t.kind.setWidth 64 <<< 56) ||| (BitVec.ofNat 64 (t.sat.toNat) <<< 52) ||| (BitVec.ofNat 64 t.fabric.toNat <<< 51)
    ||| (BitVec.ofNat 64 t.run.toNat <<< 50) ||| (BitVec.ofNat 64 t.inp.toNat <<< 49)
    ||| (BitVec.ofNat 64 t.q.toNat <<< 48) ||| t.elapsed.setWidth 64

end Sys2Proof.Machine
end

