-- ==== Sys2Proof/Machine/Tasks.lean ====
section
/-! DEFINITION. Tasks: stopping with the GLIDE batch (R88, R123), starting (R114), events held and merged (R113), the
collector's take stage (R138, R142) and the health requests a task can raise. -/

namespace Sys2Proof.Machine

/-! ### Output words of a task -/

/-- The QW routing entries that a task owns, in routing order. -/
def ownedRoutes (img : ImageCfg) (t : Nat) : List RouteCfg :=
  img.routes.filter (fun r => r.out && r.owner.toNat == t)

/-- The force entry of a word, if one is in use (R132). -/
def forceFor (s : State) (out : Bool) (n : Nat) : Option ForceEntry :=
  s.img.forces.find? (fun f => f.out == out && f.num == n)
def simFor (s : State) (n : Nat) : Option ForceEntry := s.img.sims.find? (fun f => f.num == n)

/-- A forced output word (R132): the force value, FORCED = 1, QUAL GOOD, HOLD 0 and GLIDE 0. -/
def forceOut (s : State) (n : Nat) (w : ImgWord) : ImgWord :=
  match forceFor s true n with
  | none => w
  | some f => ⟨f.data, (w.tag &&& 0xFFFFFFCC) ||| 0x4⟩

/-- The word after the batch of R123: GLIDE = 1 and nothing else, unless it is forced. -/
def glideWord (s : State) (n : Nat) : ImgWord :=
  let w := s.qwGet n
  forceOut s n { w with tag := tagSetGlide w.tag }

/-- The batch that sets GLIDE = 1 on every output word of the routes given (R123, R165). -/
def glideRoutes (rs : List RouteCfg) (s : State) : State :=
  rs.foldl (fun s r => s.setQw r.num (glideWord s r.num)) s

def glideBatch (t : Nat) (s : State) : State := glideRoutes (ownedRoutes s.run t) s

/-! ### Region states of a task (R406) -/

/-- Put every region of a task that is not in fault state into `st`. -/
def setTaskRegions (t : Nat) (st : RegionState) (s : State) : State :=
  (taskRegions (s.tcfg t)).foldl
    (fun s r => s.modRegion r (fun x => if x.st = .fault then x else { x with st := st })) s

def regionFaulted (s : State) (t : Nat) : Bool :=
  (taskRegions (s.tcfg t)).any (fun r => (s.region r).st = .fault)
/-- A region restart of Tt is in progress, or an edit with RESTART = 1 that takes its place (R114, R153). -/
def regionRestarting (s : State) (t : Nat) : Bool :=
  (taskRegions (s.tcfg t)).any (fun r => (s.region r).restart ≠ .none)
    || (match s.cfg.job with
      | some j => j.delta && j.phase == .recess && j.edit.map.restart && j.edit.task == t
      | none => false)

/-! ### Abort and stop -/

/-- Is an activation under way or requested? -/
def TaskSt.busy (x : TaskSt) : Bool :=
  x.wanted || x.st == .rollCall || x.st == .running || x.st == .publish

def EngRun.task? : EngRun → Option TaskId
  | .free => none
  | .lesson t _ => some t
  | .ended t _ => some t

def QEntry.ofTask (t : Nat) : QEntry → Bool
  | .qw t' _ _ _ => t'.val == t
  | .bb t' _ _ _ => t'.val == t
  | .marker t' _ => t'.val == t

def queueOf (s : State) (i : Nat) : List QEntry := tget [] s.img.queues i
def setQueue (i : Nat) (q : List QEntry) (s : State) : State :=
  { s with img := { s.img with queues := tset [] s.img.queues i q } }

/-- The batch of Tt that is on the apply port becomes void: the port ends its walk, (Nown + 1) × 4/3 ns after it took the batch, and
writes nothing (R123, R139). The time that steps of the reflex lane take in between is left out (log 36). -/
def voidBatch (t : Nat) (s : State) : State :=
  if s.img.port = some (.task t) then
    { s with img := { s.img with
        port := none, voidEnd := s.img.portNs + (4 * ((ownedRoutes s.run t).length + 1) + 2) / 3 } }
  else s

/-- R88: the task's engines stop and are free, its queued entries are discarded, its activation is unpublished. A wave in
progress runs to its end edge (R79). -/
def abortTask (t : Nat) (s : State) : State :=
  let s := (List.range 25).foldl (fun s e =>
    if (s.engine e).run.task? = some (Fin.ofNat 32 t) then s.modEngine e (fun x => { x with run := .free }) else s) s
  let s := (List.range 41).foldl (fun s i => setQueue i ((queueOf s i).filter (fun x => !x.ofTask t)) s) s
  let s := voidBatch t s
  s.modTask t (fun x => { x with wanted := false, pending := false, waveStop := false, lessons := [], batch := [], overran := false })

/-- STATE follows STOP_CAUSE: FAULT for 2–5, STOPPED otherwise (R116). -/
def stopState (cause : BitVec 4) : TaskState :=
  if 2 ≤ cause.toNat ∧ cause.toNat ≤ 5 then .fault else .stopped

/-- TASK_STOP_FAULT is written at every stop with STOP_CAUSE 2–5 (R116). -/
def raiseTaskStop (t : Nat) (cause : BitVec 4) (s : State) : State :=
  if stopState cause = .fault then
    diaryRaise 0x3001 (BitVec.ofNat 16 t) ([cause.setWidth 8, 0, 0, 0] ++ wordBytes (s.task t).actCnt) s
  else s

/-! ### The apply port (R139) -/

/-- The order in which the port serves what waits: rank, a batch with a marker first, the index of the queue that delivered
its last marker, else the task's number. The spec leaves the order of two tasks of one priority whose last markers one queue
delivered; the lower task number goes first (DESIGN CHOICE, log 42). -/
def portOrder (s : State) : PortJob → Nat
  | .task t => (s.tcfg t).prio.toNat * 4096 + (match (s.task t).lastQueue with | some q => q | none => 2048 + t)
  | .glide t => (s.tcfg t).prio.toNat * 4096 + 2048 + t
  | .edit t => (s.tcfg t).prio.toNat * 4096 + 2048 + t
  | .input true => 41
  | .input false => 8 * 4096 + 42
/-- The batches that are ready. -/
def portWaiting (s : State) : List PortJob :=
  (taskIds.filter (fun t => (s.task t).st == .publish && (s.tcfg t).kind != 3)).map .task ++ s.img.glides.map .glide
    ++ (match s.img.lostWords with | some e => [.edit e.1] | none => [])
    ++ (if s.img.trelexIn.isEmpty then [] else [.input true]) ++ (if s.img.hostIn.isEmpty then [] else [.input false])
def portBest (s : State) : Option PortJob :=
  (portWaiting s).foldl (fun b j => match b with
    | none => some j
    | some x => if portOrder s j < portOrder s x then some j else some x) none
/-- The batch on the port. -/
def portCur (s : State) : Option PortJob := s.img.port.filter (fun j => (portWaiting s).contains j)
/-- A batch that sets GLIDE = 1, whose flip no row reports, is applied and leaves the port (R123, R165, log 38); none where the batch
is of another kind. -/
def portGlide (j : PortJob) (s : State) : Option State :=
  match j with
  | .glide t => some (glideBatch t { s with img := { s.img with port := none, glides := s.img.glides.erase t } })
  | .edit _ => some (glideRoutes ((s.img.lostWords.map (·.2)).getD []) { s with img := { s.img with port := none, lostWords := none } })
  | _ => none
/-- An idle port takes the next batch, once it has ended the walk of a void one (R123). A batch of GLIDE is applied as soon as the
port has it and the reflex lane, which the collector serves first, is empty (R74). -/
def portServe : Nat → State → State
  | 0, s => s
  | n + 1, s =>
    if s.now < s.img.voidEnd then s
    else match (portCur s).or (portBest s) with
      | none => { s with img := { s.img with port := none } }
      | some j =>
        let took := if portCur s = some j then s else { s with img := { s.img with port := some j, portNs := s.now } }
        if !s.img.lane.isEmpty then took
        else match portGlide j took with
          | some s => portServe n s
          | none => took
def portKick (s : State) : State := portServe (s.img.glides.length + 2) s
/-- An input batch is closed in the host queue, or in the Trelex queue (R139). -/
def pushHost (b : InBatch) (s : State) : State := portKick { s with img := { s.img with hostIn := s.img.hostIn ++ [b] } }
def pushTrelex (b : InBatch) (s : State) : State := portKick { s with img := { s.img with trelexIn := s.img.trelexIn ++ [b] } }
/-- Tt's GLIDE batch is ready (R123). -/
def requestGlide (t : Nat) (s : State) : State := portKick { s with img := { s.img with glides := s.img.glides.erase t ++ [t] } }
/-- Tt publishes: its batch is ready (R122, R139). -/
def becomeReady (t : Nat) (s : State) : State := portKick (s.modTask t (fun x => { x with st := .publish }))

/-! ### The batch of an activation (R288) -/

/-- The batch as the comparison takes it: every owned word in routing order, with data and tag. -/
def batchEntries (t : Nat) (s : State) : List (Nat × ImgWord) := (ownedRoutes s.run t).map (fun r => (r.num, s.qwGet r.num))
def keepBatch (b : KeptBatch) (l : List KeptBatch) : List KeptBatch :=
  (b :: l.filter (fun x => x.task == b.task)).take 4 ++ l.filter (fun x => x.task != b.task)

/-- An activation has ended: the batch is kept for the last 4 activations, and the active module sends COMPARE. -/
def recordBatch (t : Nat) (act : Word) (cause : BitVec 4) (s : State) : State :=
  if !(streaming s || standby s) then s
  else
    let es := batchEntries t s
    let s := { s with red := { s.red with kept := keepBatch ⟨t, act, cause.setWidth 8, es⟩ s.red.kept } }
    emit 6 ([BitVec.ofNat 8 t, cause.setWidth 8, 0, 0] ++ wordBytes act ++ wordBytes (batchCrc es) ++ leBytes 8 0) s

/-- Tt stops now: the activation in progress is not published, the GLIDE batch runs (R88, R116, R123). -/
def stopTask (t : Nat) (cause : BitVec 4) (s : State) : State :=
  if (s.tcfg t).kind = 0 then s else
  let running := (s.task t).busy && !(s.task t).wanted
  let s := abortTask t s
  let s := s.modTask t (fun x => { x with st := stopState cause, cause := cause, stopReq := none })
  let s := setTaskRegions t .stopped s
  let s := raiseTaskStop t cause (requestGlide t s)
  if running then settleCompares (recordBatch t (s.task t).actCnt cause s) else s

/-- Tt is in Recess, which it entered stopped (R155). -/
def offInRecess (s : State) (t : Nat) : Bool :=
  (s.task t).st == .recess && (match s.cfg.job with | some j => j.edit.task == t && j.was != .idle | none => false)
/-- Tt stops unless it is already stopped or in fault; a task in FAULT keeps its cause (R116). A task that is held, STOPPED
with cause 0, goes into FAULT with its fault. -/
def stopNow (t : Nat) (cause : BitVec 4) (s : State) : State :=
  let x := s.task t
  let held := decide (x.st = .stopped ∧ x.cause = 0 ∧ stopState cause = .fault)
  if x.st = .fault ∨ (x.st = .stopped ∧ !held) ∨ x.st = .unused ∨ offInRecess s t then s else stopTask t cause s

/-- Words of a reflex task wait in the reflex lane, which the collector serves before any batch (R74, R139). -/
def lanePending (t : Nat) (s : State) : Bool := s.img.lane.any (fun x => x.task.val == t)

/-- A region of Tt has gone into fault state: the task stops (R19), at the end edge of its wave in progress (R79); words that
an ended reflex wave has put into the lane are applied first (R74). -/
def regionStop (t : Nat) (s : State) : State :=
  if (taskRegions (s.tcfg t)).any (fun r => (s.region r).wave) then s.modTask t (fun x => { x with waveStop := true })
  else if lanePending t s && ((s.task t).st == .idle || (s.task t).st == .running) then
    s.modTask t (fun x => { x with st := .idle, pending := false, wanted := false, waveStop := false, stopReq := x.stopReq.or (some 3) })
  else stopNow t 3 s

/-- Tt stops at the end of its current activation, which publishes; at once when it is idle (R114, R126). A reflex task's
activation ends with its step of the lane (R115). The first of several causes stands. An activation that is requested and
waits for the Roll Call unit counts as current (log 38). Under a load or a region restart a task reads that cause, whether it is
stopped or a TASK_STOP still waits (R116). -/
def stopAtEnd (t : Nat) (cause : BitVec 4) (s : State) : State :=
  let x := s.task t
  let stands := !(x.stopReq == some 1 && (cause == 6 || cause == 7)) && !(x.stopReq == some 7 && cause == 6)
  if x.st = .stopped ∧ (cause = 6 ∨ cause = 7) then s.modTask t (fun x => { x with cause := cause })
  else if x.st = .fault ∨ x.st = .stopped ∨ x.st = .unused then s
  else if x.busy || x.st == .recess || lanePending t s then
    s.modTask t (fun x => { x with stopReq := if stands then x.stopReq.or (some cause) else some cause })
  else stopTask t cause s

/-- A task start (R114): counters, CAUSE and ENGINE cleared, and the Blackboard unless a region restart ends. Its first due
time is the first after the start (log 38). -/
def startTask (t : Nat) (keepBb : Bool) (s : State) : State :=
  if (s.tcfg t).kind = 0 then s else
  let s := s.modTask t (fun x => { x with
    st := .idle, cause := 0, pending := false, wanted := false, overran := false, stopReq := none
    actCnt := 0, skipped := 0, consec := 0, merged := 0, foreign := 0
    fault := x.fault &&& 0xFFFF007F
    lessons := [], batch := [], byCmd := false, rows := [], lastQueue := none, lastDue := some s.tbrd
    bb := if keepBb then x.bb else [] })
  setTaskRegions t .idle s

/-! ### Events (R113) -/

/-- An event has arrived for Tt: it requests the next activation, or is held as pending, merged or discarded. One that falls
while the requested activation waits for the Roll Call unit merges into it (log 38). -/
def eventArrive (t : Nat) (s : State) : State :=
  let x := s.task t
  if x.st = .idle ∧ !x.wanted then s.modTask t (fun x => { x with wanted := true, startNs := s.now })
  else if offInRecess s t then s
  else if x.st = .stopped ∨ x.st = .fault ∨ x.st = .unused then s
  else if x.wanted ∨ x.pending then s.modTask t (fun x => { x with merged := satInc x.merged })
  else s.modTask t (fun x => { x with pending := true, pendNs := s.now })

/-- An event for Tt. A standby takes its events from MARK records only (R285). -/
def eventFor (t : Nat) (s : State) : State :=
  if !s.running || !ownTiming s then s else eventArrive t (emitMark t 3 ((s.task t).actCnt + 1) s)

/-- Deliver an event to every event task whose TRIGGER names it (Table 5-3). -/
def deliverEvent (trigger : Word) (s : State) : State :=
  taskIds.foldl (fun s t => if (s.tcfg t).kind = 2 ∧ (s.tcfg t).trigger = trigger then eventFor t s else s) s

/-! ### The collector's take stage (R138, R142) -/

/-- Whether a region of task `t` drives output word `n` (R64, R100): a KIND 0x8 routing word names it. -/
def rwKind (w : BitVec 64) : Nat := (w >>> 60).toNat
def rwQw (w : BitVec 64) : Nat := (w >>> 16).toNat % 32768
def regionDrives (s : State) (t n : Nat) : Bool :=
  (taskRegions (s.tcfg t)).any (fun r => (s.region r).active.rws.any (fun e => rwKind e.2 == 8 && rwQw e.2 == n))

/-- A write by a task that the collector discards as foreign (R142, Table 5-6): counted, and TASK_FAULT.FOREIGN set, also for an STQ,
whose store in the engine sets no bit (R100, log 38). -/
def foreignWrite (t : Nat) (s : State) : State :=
  s.modTask t (fun x => { x with foreign := satInc x.foreign, fault := x.fault ||| boolBit tfForeign true })

/-- Mask a Blackboard store: only the bits of `mask` change (R102). -/
def bbMerge (old data mask : Word) : Word := (old &&& ~~~mask) ||| (data &&& mask)

/-- Take one entry of a queue. `wave` says that a fabric region delivered it. -/
def takeEntry (wave : Bool) (q : QEntry) (s : State) : State :=
  match q with
  | .bb t n d m =>
    if n < (s.tcfg t).bbWords.toNat then s.modTask t (fun x => { x with bb := tmod 0 x.bb n (fun o => bbMerge o d m) }) else s
  | .qw t n d tag =>
    match routeOf s.run true n with
    | none => foreignWrite t s
    | some r =>
      if r.owner.toNat ≠ t.val ∨ (!wave && regionDrives s t n) then foreignWrite t s
      else s.modTask t (fun x => { x with batch := tset {} x.batch n ⟨d, tag⟩ })
  | .marker _ _ => s

/-- Take every entry in front of a marker of `l`, and the marker; every entry when no marker stands there. -/
def splitMarker (l : Nat) : List QEntry → List QEntry × List QEntry
  | [] => ([], [])
  | .marker t l' :: r => if l = l' then ([], r) else let p := splitMarker l r; (.marker t l' :: p.1, p.2)
  | x :: r => let p := splitMarker l r; (x :: p.1, p.2)

def takeAll (wave : Bool) (qs : List QEntry) (s : State) : State := qs.foldl (fun s q => takeEntry wave q s) s

/-- The queue of an engine: 16–39 for E0–E23, 40 for the safety subsystem (Table 5-8). -/
def engQueue (e : Nat) : Nat := if e = 24 then 40 else 16 + e

/-- Take the whole queue of an engine (R101: earlier stores of the same engine are applied first); a marker stays. -/
def drainEngine (e : Nat) (s : State) : State :=
  let q := queueOf s (engQueue e)
  let keep := q.filter (fun x => match x with | .marker _ _ => true | _ => false)
  takeAll false q (setQueue (engQueue e) keep s)

/-- The first entry of queue `i` is taken, unless it is a marker, which LESSON_COMPLETE takes (R138; the tick, log 2). -/
def takeOne (i : Nat) (s : State) : State :=
  match queueOf s i with
  | [] => s
  | .marker _ _ :: _ => s
  | q :: r => takeEntry (decide (i < 16)) q (setQueue i r s)

/-- An engine stores into its queue; when the queue holds 128 entries the engine waits for one to be taken (R24, R138). -/
def pushEngine (e : Nat) (x : QEntry) (s : State) : State :=
  let s := if 128 ≤ (queueOf s (engQueue e)).length then takeOne (engQueue e) s else s
  setQueue (engQueue e) (queueOf s (engQueue e) ++ [x]) s

end Sys2Proof.Machine
end

