-- ==== Sys2Proof/Machine/Clock.lean ====
section
/-! DEFINITION. The clock and backup domain (chapter 14): commits, summer time, alarms, PWRON_REQ, synchronisation, clock
failure, brown-out. -/

namespace Sys2Proof.Machine

def setRtc (r : RtcSt) (s : State) : State := { s with rtc := r }

/-! ### RESULT (Table 14-4) -/

def rrOk : BitVec 4 := 0
def rrPending : BitVec 4 := 1
def rrInvalidDate : BitVec 4 := 2
def rrBusy : BitVec 4 := 3
def rrState : BitVec 4 := 4
def rrRange : BitVec 4 := 5
def rrSyncActive : BitVec 4 := 6
def rrUnknown : BitVec 4 := 7

def rtcResult (v : BitVec 4) (s : State) : State := setRtc { s.rtc with result := v } s
def syncLocked (s : State) : Bool := s.rtc.sync == 1 && s.net.ptpLocked

/-- No logic power: neither input is present and the module is in reset (R348). -/
def powerAbsent (s : State) : Bool := !s.sup.ps1Ok && !s.sup.ps2Ok && s.sup.phase == .reset

/-! ### Alarms (R346, R347) -/

/-- An unmasked field that equals the calendar's. A WEEKDAY, DAY or MONTH of 0 equals none. -/
def alarmMatch (time : Word) (ctrl : Byte) (c : Cal) : Bool :=
  let f (lo n v : Nat) (mask : Nat) : Bool := ctrl.getLsbD mask || decide ((time >>> lo).toNat % 2 ^ n = v)
  ctrl.getLsbD 7 && f 27 5 c.hour 2 && f 21 6 c.min 1 && f 15 6 c.sec 0 && f 10 5 c.day 3 && f 6 4 c.month 4
    && f 3 3 (weekday c) 5

/-- The alarm `n` takes the new whole-second value: its flag, its event while tasks run, PWRON_REQ without logic power. -/
def alarmTake (n : Nat) (time : Word) (ctrl : Byte) (s : State) : State :=
  if !alarmMatch time ctrl s.rtc.cal then s
  else
    let s := if n = 0 then setRtc { s.rtc with alm0 := true } s else setRtc { s.rtc with alm1 := true } s
    let s := if ctrl.getLsbD 6 && powerAbsent s then setRtc { s.rtc with pwronReq := true } s else s
    deliverEvent (trigAlarm n) s
def alarms (s : State) : State :=
  alarmTake 1 s.rtc.almTime1 s.rtc.almCtrl1 (alarmTake 0 s.rtc.almTime0 s.rtc.almCtrl0 s)

/-! ### Commands -/

/-- COMMIT of staged words `t`, `d` (R339, R341, R342, R349). -/
def commitTime (t d : Word) (s : State) : State :=
  if s.rtc.clkFail then rtcResult rrState s
  else if s.rtc.commit.isSome || s.rtc.shift.isSome then rtcResult rrBusy s
  else if syncLocked s then rtcResult rrSyncActive s
  else if !calValid (calOfSet t d) then rtcResult rrInvalidDate s
  else setRtc { s.rtc with commit := some (calOfSet t d, d.getLsbD 7), syncing := false, result := rrPending } s

/-- SUMMER_ADD and SUMMER_SUB (R344, R345, R349). -/
def summerShift (fwd : Bool) (s : State) : State :=
  let next := calInc s.rtc.cal
  if s.rtc.clkFail then rtcResult rrState s
  else if s.rtc.commit.isSome || s.rtc.shift.isSome then rtcResult rrBusy s
  else if s.rtc.summer == fwd then rtcResult rrState s
  else if (if fwd then calSeconds calEnd < calSeconds next + 3600 else calSeconds next < 3600) then rtcResult rrRange s
  else setRtc { s.rtc with shift := some fwd, result := rrPending } s

/-- RTC_CMD of a staged time (Table 14-1). -/
def rtcCommand (v : Byte) (t d : Word) (s : State) : State :=
  match v.toNat with
  | 1 => commitTime t d s
  | 2 => summerShift true s
  | 3 => summerShift false s
  | _ => rtcResult rrUnknown s

/-- COMMIT. -/
def execCommit (s : State) : Out := .next (if s.up then commitTime s.rtc.set0 s.rtc.set1 s else s)
/-- SUMMER_ADD. -/
def execSummerAdd (s : State) : Out := .next (if s.up then summerShift true s else s)
/-- SUMMER_SUB. -/
def execSummerSub (s : State) : Out := .next (if s.up then summerShift false s else s)
/-- RTC_CMD_UNKNOWN (R337): a value other than the three commands. -/
def execRtcCmdUnknown (v : Byte) (s : State) : Out :=
  .next (if s.up then rtcCommand v s.rtc.set0 s.rtc.set1 s else s)

/-! ### CK_RTC -/

/-- COMMIT_APPLY (R339, R340): the calendar takes the committed time. CK_RTC has no edge while it has failed (R349). RESULT is
that of the last command, which a synchronisation is not (Table 14-4). -/
def commitApply (s : State) : State :=
  match s.rtc.commit with
  | some (c, summer) =>
    if s.rtc.clkFail then s
    else alarms (setRtc { s.rtc with
      cal := c, prescaler := 0, valid := true, summer := summer, commit := none, syncing := false
      result := if s.rtc.syncing then s.rtc.result else rrOk } s)
  | none => s
def execCommitApply (s : State) : Out := .next (commitApply s)

/-- CALENDAR_SECOND (R340, R344, R346): a commit that applies at the same edge discards the increment. At its end the calendar
stays at 23:59:59.999 (R402); a pending SUMMER_SUB still takes its hour there (log 41). -/
def calendarSecond (s : State) : State :=
  if s.rtc.clkFail then s
  else if s.rtc.commit.isSome then commitApply s
  else if s.rtc.cal = calEnd ∧ s.rtc.shift = none then setRtc { s.rtc with prescaler := 32767 } s
  else
    let c := calInc s.rtc.cal
    let s := setRtc { s.rtc with prescaler := 0 } s
    match s.rtc.shift with
    | some fwd => alarms (setRtc { s.rtc with cal := calShift fwd c, summer := fwd, shift := none, result := rrOk } s)
    | none => alarms (setRtc { s.rtc with cal := c } s)
def execCalendarSecond (s : State) : Out := .next (calendarSecond s)

/-- PWRON_REQ_TIMEOUT (R348). -/
def execPwronReqTimeout (s : State) : Out :=
  .next (if s.rtc.pwronReq then setRtc { s.rtc with pwronReq := false, wakeFail := true } s else s)

/-! ### Settings (R337) -/

def clockSettings (r : RtcSt) : List Byte :=
  halfBytes r.utcOfs ++ [BitVec.ofNat 8 r.sync.toNat] ++ wordBytes r.almTime0 ++ [r.almCtrl0] ++ wordBytes r.almTime1 ++ [r.almCtrl1]
def storeClock (s : State) : State := setPageValue clockPage (clockSettings s.rtc) s

/-- An alarm time with no field above its range; 0 may stand in DAY, MONTH and WEEKDAY, which then match nothing. -/
def alarmInRange (t : Word) : Bool :=
  decide ((t >>> 27).toNat ≤ 23) && decide ((t >>> 21).toNat % 64 ≤ 59) && decide ((t >>> 15).toNat % 64 ≤ 59)
    && decide ((t >>> 6).toNat % 16 ≤ 12)
/-- An unmasked field holds 0 where its range begins at 1 (Tables 14-5, 14-6). A write of the time that leaves one is ignored;
a write of the masks that uncovers one is taken, the field matches nothing, and RESULT reads RANGE (log 41). -/
def alarmVoid (t : Word) (ctrl : Byte) : Bool :=
  (!ctrl.getLsbD 3 && decide ((t >>> 10).toNat % 32 = 0)) || (!ctrl.getLsbD 4 && decide ((t >>> 6).toNat % 16 = 0))
    || (!ctrl.getLsbD 5 && decide ((t >>> 3).toNat % 8 = 0))
def alarmResult (t : Word) (ctrl : Byte) (s : State) : State := if alarmVoid t ctrl then rtcResult rrRange s else s

/-- A write to RTC_UTC_OFS, RTC_SYNC or an alarm register at BAR0 offset `off`. -/
def rtcSettingWrite (off : Nat) (v : Word) (s : State) : State :=
  let t := v &&& 0xFFFFFFF8
  let c : Byte := v.setWidth 8
  let ofs : Half := v.setWidth 16
  match off with
  | 0x0C18 =>
    if -720 ≤ ofs.toInt ∧ ofs.toInt ≤ 840 then storeClock (setRtc { s.rtc with utcOfs := ofs } s) else rtcResult rrRange s
  | 0x0C1C => if (v &&& 3).toNat ≤ 1 then storeClock (setRtc { s.rtc with sync := v.setWidth 2 } s) else rtcResult rrRange s
  | 0x0C20 =>
    if alarmInRange t && !alarmVoid t s.rtc.almCtrl0 then storeClock (setRtc { s.rtc with almTime0 := t } s)
    else rtcResult rrRange s
  | 0x0C24 => alarmResult s.rtc.almTime0 c (storeClock (setRtc { s.rtc with almCtrl0 := c } s))
  | 0x0C28 =>
    if alarmInRange t && !alarmVoid t s.rtc.almCtrl1 then storeClock (setRtc { s.rtc with almTime1 := t } s)
    else rtcResult rrRange s
  | 0x0C2C => alarmResult s.rtc.almTime1 c (storeClock (setRtc { s.rtc with almCtrl1 := c } s))
  | _ => s
/-- RTC_SETTING_WRITE. -/
def execRtcSettingWrite (off : Half) (v : Word) (s : State) : Out :=
  .next (if s.up then rtcSettingWrite off.toNat v s else s)

/-- The settings as the parameter store holds them (R351); never written, they are 0. -/
def restoreClock (s : State) : State :=
  let b := (pageValue s clockPage).getD []
  setRtc { s.rtc with
    utcOfs := fieldH b 0, sync := BitVec.ofNat 2 (field b 2 1), almTime0 := fieldW b 3, almCtrl0 := fieldB b 7
    almTime1 := fieldW b 8, almCtrl1 := fieldB b 12 } s

/-! ### Synchronisation (R343) -/

/-- Local time of the plant-side clock, in ns since 2000-01-01 (R336). -/
def plantLocalNs (s : State) : Nat :=
  let ofs : Int := s.rtc.utcOfs.toInt * 60 + (if s.rtc.summer then 3600 else 0) - epoch2000
  ((s.net.plantNs : Int) + ofs * 1000000000).toNat
def calNs (r : RtcSt) : Nat := calSeconds r.cal * 1000000000 + r.prescaler * 1000000000 / 32768

/-- RTC_SYNC_COMPARE, at second 30 of a plant-side minute: 1 ms or more apart, the module commits at the next plant-side
second. -/
def execRtcSyncCompare (s : State) : Out :=
  .next (
    if !syncLocked s || s.sup.phase == .reset || s.net.plantNs / 1000000000 % 60 != 30 then s
    else if s.rtc.clkFail then rtcResult rrState s
    else if absDiff (plantLocalNs s) (calNs s.rtc) < 1000000 then s
    else setRtc { s.rtc with syncAt := some (s.net.plantNs / 1000000000 + 1) } s)

/-- The plant-side second of a synchronisation has come: its converted time is committed, with SUMMER as it stands. It takes no
place of a commit or shift that pends, waits for no clock that has failed, and does not pass the calendar's end (R342, R349,
R402, log 41). -/
def syncCommit (s : State) : State :=
  match s.rtc.syncAt with
  | some t =>
    let n := plantLocalNs s / 1000000000
    if s.net.plantNs / 1000000000 < t then s
    else
      let s := setRtc { s.rtc with syncAt := none } s
      if s.rtc.clkFail then rtcResult rrState s
      else if s.rtc.commit.isSome || s.rtc.shift.isSome || !syncLocked s then s
      else if calSeconds calEnd < n then rtcResult rrRange s
      else setRtc { s.rtc with commit := some (calOfSeconds n, s.rtc.summer), syncing := true } s
  | none => s

/-! ### Failure of CK_RTC (R349), brown-out (R350, R351) -/

/-- CK_RTC has failed: the calendar stops. Without logic power CK_RTC is not monitored. -/
def rtcClockFail (s : State) : State :=
  if powerAbsent s || s.rtc.clkFail then s
  else
    let w := clkWord s.rtc
    diaryRaise 0xC001 noInst (leBytes 8 w.toNat) (setRtc { s.rtc with clkFail := true, valid := false, syncAt := none } s)
/-- RTC_CLOCK_FAIL. -/
def execRtcClockFail (s : State) : Out := .next (rtcClockFail s)
/-- RTC_CLOCK_RECOVERED. -/
def execRtcClockRecovered (s : State) : Out :=
  .next (if powerAbsent s then s else setRtc { s.rtc with clkFail := false } s)

/-- BROWN_OUT: the domain voltage has fallen below 1.60 V and the latch is set; Dawn judges it. It cannot fall while the logic
rail feeds the domain, nor within 50 ms of an input loss (R350, Table 14-7). -/
def execBrownOut (s : State) : Out :=
  .next (
    if !powerAbsent s ∨ (s.sup.inputLost ∧ s.clockNs < s.sup.lossNs + 50000000) then s
    else setRtc { s.rtc with brownOut := true } s)

/-- VBAT as measured, in mV, and VBAT_LOW at the typical threshold of Table 14-7 (log 41). -/
def measureVbat (v : Half) (s : State) : State := setRtc { s.rtc with vbat := v, vbatLow := decide (v.toNat < 2400) } s

/-- BACKUP_DOMAIN_LOST, judged at Dawn (R351, Table 14-4). -/
def backupDawn (canaryOk : Bool) (s : State) : State :=
  if s.rtc.brownOut || !canaryOk || !s.rtc.canaryOk then
    restoreClock (setRtc { s.rtc with
      bkpLost := true, valid := false, summer := false, cal := {}, prescaler := 0, commit := none, syncing := false
      syncAt := none, shift := none, result := rrOk, clkFail := false, alm0 := false, alm1 := false, wakeFail := false
      brownOut := false, canaryOk := true } s)
  else s

/-! ### Registers (Tables 14-1, 14-4) -/

def rtcStatus (s : State) : Word :=
  let r := s.rtc
  atBit 12 r.result ||| boolBit 8 r.clkFail ||| boolBit 7 (syncLocked s) ||| boolBit 6 r.wakeFail ||| boolBit 5 r.alm1
    ||| boolBit 4 r.alm0 ||| boolBit 3 r.vbatLow ||| boolBit 2 r.bkpLost ||| boolBit 1 r.shift.isSome
    ||| boolBit 0 r.commit.isSome

/-- The block but for RTC_TIME0 and RTC_TIME1, whose reads latch. -/
def rtcReg (s : State) (off : Nat) : Word :=
  match off with
  | 0x0C08 => s.rtc.set0
  | 0x0C0C => s.rtc.set1
  | 0x0C14 => rtcStatus s
  | 0x0C18 => s.rtc.utcOfs.setWidth 32
  | 0x0C1C => s.rtc.sync.setWidth 32
  | 0x0C20 => s.rtc.almTime0
  | 0x0C24 => s.rtc.almCtrl0.setWidth 32
  | 0x0C28 => s.rtc.almTime1
  | 0x0C2C => s.rtc.almCtrl1.setWidth 32
  | 0x0C30 => s.rtc.vbat.setWidth 32
  | _ => 0

/-- Host writes to the block. MS of RTC_SET0, WEEKDAY and TIME_VALID of RTC_SET1 are reserved and read 0. -/
def rtcWrite (off : Nat) (v : Word) (s : State) : State :=
  match off with
  | 0x0C08 => setRtc { s.rtc with set0 := v &&& 0xFFFF8000 } s
  | 0x0C0C => setRtc { s.rtc with set1 := v &&& 0xFFFFF880 } s
  | 0x0C10 => rtcCommand (v.setWidth 8) s.rtc.set0 s.rtc.set1 s
  | 0x0C14 => setRtc { s.rtc with
      wakeFail := s.rtc.wakeFail && !v.getLsbD 6, alm1 := s.rtc.alm1 && !v.getLsbD 5, alm0 := s.rtc.alm0 && !v.getLsbD 4
      bkpLost := s.rtc.bkpLost && !v.getLsbD 2 } s
  | _ => rtcSettingWrite off v s

/-- RTC_TIME0 read through a port: the date is latched (R338). -/
def latchDate (sh : PortSh) (s : State) : PortSh := { sh with rtc1 := rtcTime1 s.rtc }

end Sys2Proof.Machine
end

