-- ==== Sys2Proof/Machine/Fabric.lean ====
section
/-! DEFINITION. The bit-logic fabric: cell and routing words, evaluation of a joint wave level by level, priming, ports and
sinks (chapter 03, Tables 2-13 to 2-15, 3-2, 3-3). A cell's address is region<<13 | block<<7 | cluster<<3 | cell. -/

namespace Sys2Proof.Machine

/-! ### Cell words (Table 2-13) -/

def cellLevel (w : BitVec 128) : Nat := (w >>> 120).toNat
def cellUsed (w : BitVec 128) : Bool := w.getLsbD 119
def cellMode (w : BitVec 128) : Nat := (w >>> 116).toNat % 8
def cellOutState (w : BitVec 128) : Bool := w.getLsbD 115
def cellInit (w : BitVec 128) : Bool := w.getLsbD 114
def cellEdgeZero (w : BitVec 128) : Bool := w.getLsbD 113
def cellRetain (w : BitVec 128) : Bool := w.getLsbD 112
def cellSel (w : BitVec 128) (i : Nat) : Nat := (w >>> (64 + 8 * i)).toNat % 256
def cellTable (w : BitVec 128) (i : Nat) : Bool := w.getLsbD i

/-! ### Routing words (Table 2-15) -/

def rwBits (w : BitVec 64) (lo n : Nat) : Nat := (w >>> lo).toNat % 2 ^ n
def rwDestCluster (w : BitVec 64) : Nat := rwBits w 6 4
def rwDestLine (w : BitVec 64) : Nat := rwBits w 0 6
/-- The source cell of a KIND 0x1 word. -/
def rwSrcCell (w : BitVec 64) : Nat := rwBits w 43 17
/-- IW number and bit of KIND 0x2; QW number and bit of KIND 0x8. -/
def rwWord (w : BitVec 64) : Nat := rwBits w 16 15
def rwBit (w : BitVec 64) : Nat := rwBits w 31 5
/-- Blackboard word and bit of KINDs 0x3 and 0x9; timer of KINDs 0x4, 0xA and 0xB. -/
def rwBbWord (w : BitVec 64) : Nat := rwBits w 16 12
def rwBbBit (w : BitVec 64) : Nat := rwBits w 28 5
def rwTimer (w : BitVec 64) : Nat := rwBits w 16 13
/-- The cell of the word's own block that a sink word reads. -/
def rwSinkCell (w : BitVec 64) : Nat := rwBits w 3 7
/-- A word that drives a cluster line. -/
def rwDrivesLine (w : BitVec 64) : Bool := decide (1 ≤ rwKind w) && decide (rwKind w ≤ 4)

/-- Region, and block of the region, of a cell address. -/
def addrRegion (a : Nat) : Nat := a / 8192
def addrBlock (a : Nat) : Nat := a / 128

/-- Hop cost from a source read through a cluster line (Table 3-3). -/
def hopCost (src reader : Nat) : Nat :=
  if addrRegion src ≠ addrRegion reader then 4 else if addrBlock src ≠ addrBlock reader then 2 else 1

/-! ### Evaluation -/

/-- What a wave evaluates on: the active planes of its regions by global address, their ports, the state bits as the
previous wave left them. Routing words are keyed by region and block (region<<6 | block) and slot. -/
structure WaveEnv where
  cells : Tab (BitVec 128)
  rws   : List (Nat × BitVec 64)
  iw    : List (Nat × Tab Word)
  bb    : List (Nat × Tab Word)
  tq    : List (Nat × List Nat)
  old   : Tab Bool

/-- Table outputs and state bits of the current wave, so far. -/
structure WaveVals where
  tab   : Tab Bool := []
  state : Tab Bool := []

/-- The output of a source cell as a reader at level `l` sees it over hop cost `h` (R59, R60, R61). -/
def seeCell (env : WaveEnv) (v : WaveVals) (src l h : Nat) : Bool :=
  let w := tget 0 env.cells src
  if !cellUsed w then false
  else if !cellOutState w then tget false v.tab src
  else if cellLevel w + h ≤ l then tget false v.state src
  else tget false env.old src

/-- The word that drives cluster line `line` of the reader's cluster. -/
def lineDriver (env : WaveEnv) (reader line : Nat) : Option (BitVec 64) :=
  (env.rws.find? (fun e => e.1 == addrBlock reader && rwDrivesLine e.2 && rwDestCluster e.2 == reader / 8 % 16
    && rwDestLine e.2 == line)).map (·.2)

def assocGet {α : Type} (d : α) (l : List (Nat × α)) (k : Nat) : α := tget d l k

/-- The value of a cluster line (Table 2-15); a line without a driver reads 0. -/
def lineValue (env : WaveEnv) (v : WaveVals) (reader l line : Nat) : Bool :=
  match lineDriver env reader line with
  | none => false
  | some w =>
    match rwKind w with
    | 1 => seeCell env v (rwSrcCell w) l (hopCost (rwSrcCell w) reader)
    | 2 => (tget (α := Word) 0 (assocGet [] env.iw (addrRegion reader)) (rwWord w)).getLsbD (rwBit w)
    | 3 => (tget (α := Word) 0 (assocGet [] env.bb (addrRegion reader)) (rwBbWord w)).getLsbD (rwBbBit w)
    | _ => (assocGet [] env.tq (addrRegion reader)).contains (rwTimer w)

/-- One of the six inputs (Table 2-14). -/
def cellInput (env : WaveEnv) (v : WaveVals) (a l sel : Nat) : Bool :=
  if sel < 8 then seeCell env v (a / 8 * 8 + sel) l 1
  else if sel < 0x48 then lineValue env v a l (sel - 8)
  else decide (sel = 0xFF)

/-- Update of the state bit in its clock (Table 3-2). -/
def stateUpdate (mode : Nat) (t f s : Bool) : Bool :=
  match mode with
  | 1 => if f then t else s
  | 2 => t || (s && !f)
  | 3 => !f && (t || s)
  | 4 => t
  | _ => s

/-- Evaluate one used cell; `upd` says whether its state bit is updated in this wave. -/
def evalCell (env : WaveEnv) (upd : Nat → Bool) (v : WaveVals) (a : Nat) (w : BitVec 128) : WaveVals :=
  let l := cellLevel w
  let i (k : Nat) : Bool := cellInput env v a l (cellSel w k)
  let f := i 5
  let idx := (i 0).toNat + 2 * (i 1).toNat + 4 * (i 2).toNat + 8 * (i 3).toNat + 16 * (i 4).toNat + 32 * f.toNat
  let t := cellTable w idx
  let s := tget false env.old a
  { tab := tset false v.tab a t
    state := tset false v.state a (if upd a then stateUpdate (cellMode w) t f s else s) }

/-- The used cells of one level, in ascending address. -/
def evalLevel (env : WaveEnv) (upd : Nat → Bool) (v : WaveVals) (l : Nat) : WaveVals :=
  env.cells.foldl (fun v e => if cellUsed e.2 && cellLevel e.2 == l then evalCell env upd v e.1 e.2 else v) v

/-- Wave length of the joint wave: highest LEVEL among used cells plus 1 (R67). -/
def waveLength (env : WaveEnv) : Nat :=
  env.cells.foldl (fun n e => if cellUsed e.2 then max n (cellLevel e.2 + 1) else n) 1

/-- All levels in order. State bits not evaluated keep their values. -/
def evalWave (env : WaveEnv) (upd : Nat → Bool) : WaveVals :=
  (List.range (waveLength env)).foldl (evalLevel env upd) { tab := [], state := env.old }

/-- The output of a cell at the end of the wave, as a sink reads it. -/
def cellOut (env : WaveEnv) (v : WaveVals) (a : Nat) : Bool := seeCell env v a 1000 0

/-! ### Joint waves -/

/-- Lessons with the same set of predecessors (R67). -/
def samePreds (a b : LessonCfg) : Bool := a.preds.all (fun p => b.preds.contains p) && b.preds.all (fun p => a.preds.contains p)

/-- The wave Lessons that form one joint wave with Lesson `l`. -/
def jointLessons (img : ImageCfg) (l : Nat) : List Nat :=
  let c := lessonCfg img l
  (List.range img.lessons.length).filter (fun k =>
    let d := lessonCfg img k; d.kind == 1 && d.task == c.task && samePreds c d)

def lessonRegion (img : ImageCfg) (l : Nat) : Nat := (lessonCfg img l).unit.toNat % 16

/-- The regions of a set of Lessons, in ascending number. -/
def jointRegions (img : ImageCfg) (ls : List Nat) : List Nat :=
  regionIds.filter (fun r => ls.any (fun l => lessonRegion img l == r))

/-- The environment of a joint wave over regions `rs`. -/
def waveEnv (s : State) (rs : List Nat) : WaveEnv :=
  { cells := rs.flatMap (fun r => (s.region r).active.cells.map (fun e => (r * 8192 + e.1, e.2)))
    rws := rs.flatMap (fun r => (s.region r).active.rws.map (fun e => (r * 64 + e.1 / 256, e.2)))
    iw := rs.map (fun r => (r, (s.region r).portIw))
    bb := rs.map (fun r => (r, (s.region r).portBb))
    tq := rs.map (fun r => (r, (s.region r).portTq))
    old := rs.flatMap (fun r => (s.region r).bits.map (fun e => (r * 8192 + e.1, e.2))) }

/-- The state bits of one region out of the joint wave's. -/
def regionBits (r : Nat) (t : Tab Bool) : Tab Bool :=
  (t.filter (fun e => addrRegion e.1 == r)).map (fun e => (e.1 % 8192, e.2))

/-- The timers whose Q the regions capture, in ascending number. -/
def waveTimers (s : State) (rs : List Nat) : List Nat :=
  let ns := rs.flatMap (fun r => ((s.region r).active.rws.filter (fun e => rwKind e.2 = 4)).map (fun e => rwTimer e.2))
  ns.foldl insNat []
/-- A Q capture as a READ value (Table 11-14): [12:0] timer, [16] Q. -/
def qValue (s : State) (n : Nat) : Dword := BitVec.ofNat 64 (n + 2 ^ 16 * (s.timer n).q.toNat)

/-- Load the ports of region `r` (Table 3-4): input words from `src`, Blackboard words of the task, the timer Qs captured. -/
def loadPorts (src : Tab ImgWord) (qs : List Dword) (t : Nat) (r : Nat) (s : State) : State :=
  let rws := (s.region r).active.rws
  let iw := rws.foldl (fun p e => if rwKind e.2 = 2 then tset (α := Word) 0 p (rwWord e.2) (tget {} src (rwWord e.2)).data else p) []
  let bb := rws.foldl (fun p e => if rwKind e.2 = 3 then tset (α := Word) 0 p (rwBbWord e.2) (tget (α := Word) 0 (s.task t).bb (rwBbWord e.2)) else p) []
  let tq := (rws.filter (fun e => rwKind e.2 = 4 && qs.contains (BitVec.ofNat 64 (rwTimer e.2 + 2 ^ 16)))).map (fun e => rwTimer e.2)
  s.modRegion r (fun x => { x with portIw := iw, portBb := bb, portTq := tq })

/-- The priming wave: only the INIT_CURRENT edge memories that wait for it take their sampled input (R66, R162). -/
def primeWave (rs : List Nat) (s : State) : State :=
  if rs.all (fun r => (s.region r).prime.isEmpty) then s
  else
    let env := waveEnv s rs
    let v := evalWave env (fun a => ((s.region (addrRegion a)).prime).contains (a % 8192))
    rs.foldl (fun s r => s.modRegion r (fun x => { x with
      bits := regionBits r v.state, parity := regionBits r v.state, prime := [] })) s

/-- Start a joint wave of Tt: ports loaded, priming wave run, regions RUNNING. In a standby the Q captures come from the
stream, and the wave waits (none) while they have not arrived (R285). A region in fault state runs no wave (R18),
and a region runs one wave at a time (R68). -/
def startWave (src : Tab ImgWord) (t : Nat) (ls : List Nat) (s : State) : Option State :=
  let rs := jointRegions s.run ls
  if rs.any (fun r => decide ((s.region r).st = .fault) || (s.region r).wave) then none else
  (takeReads t 1 0xFFFF ((waveTimers s rs).map (qValue s)) s).map (fun r =>
    let s := rs.foldl (fun s k => loadPorts src r.1 t k s) r.2
    let s := primeWave rs s
    ls.foldl (fun s l => s.modRegion (lessonRegion s.run l) (fun x => { x with
      wave := true, waveLesson := l, st := .running })) s)

/-! ### The end edge (R62, R78) -/

/-- State cells whose state bit and parity bit disagree, lowest level and address first, so that RG_FAULT records the first of them
where one wave finds several (the spec does not say which: DESIGN CHOICE, log 42). -/
def parityErrors (env : WaveEnv) (parity : Tab Bool) : List Nat :=
  let bad := env.cells.filter (fun e => cellUsed e.2 && decide (cellMode e.2 ≠ 0)
    && (tget false env.old e.1 != tget false parity e.1))
  ((List.range 256).flatMap (fun l => bad.filter (fun e => cellLevel e.2 == l))).map (·.1)

/-- The sinks of region `r`: output words, Blackboard words with the bits driven, timer INs and resets. -/
def sinkWords (env : WaveEnv) (v : WaveVals) (kind : Nat) (num bit : BitVec 64 → Nat) (r : Nat) : Tab (Word × Word) :=
  env.rws.foldl (fun p e =>
    if e.1 / 64 = r ∧ rwKind e.2 = kind then
      let m : Word := BitVec.ofNat 32 (2 ^ bit e.2)
      let d : Word := if cellOut env v (e.1 * 128 + rwSinkCell e.2) then m else 0
      tmod (0, 0) p (num e.2) (fun o => (o.1 ||| d, o.2 ||| m))
    else p) []

def sinkTimers (env : WaveEnv) (v : WaveVals) (kind : Nat) : List (Nat × Bool) :=
  (env.rws.filter (fun e => decide (rwKind e.2 = kind))).map
    (fun e => (rwTimer e.2, cellOut env v (e.1 * 128 + rwSinkCell e.2)))

/-- Apply the TIN and reset sinks of the joint wave; a timer that gets both, from one region or from two, takes them as one
new state (R405). -/
def applyTimerSinks (env : WaveEnv) (v : WaveVals) (s : State) : State :=
  let ins := sinkTimers env v 0xA
  let rsts := sinkTimers env v 0xB
  let lk (l : List (Nat × Bool)) (n : Nat) : Option Bool := (l.find? (fun e => e.1 == n)).map (·.2)
  let ns := (ins.map (·.1) ++ rsts.map (·.1)).eraseDups
  ns.foldl (fun s n => s.setTimer n (timerEdge (s.timer n) (lk ins n) (lk rsts n))) s

/-- The tag a wave's word carries into its batch: ORIGIN 2, QUAL GOOD, HOLD 0, GLIDE 0 (Table 5-7). -/
def waveTag : Word := 0x20000000

/-- The output words of region `r` as batch words: undriven bits are 0 (R64). -/
def waveOutputs (env : WaveEnv) (v : WaveVals) (r : Nat) : List (Nat × Word) :=
  (sinkWords env v 8 rwWord rwBit r).map (fun e => (e.1, e.2.1))

/-- The sink transfer of a cyclic or event wave into its region queue: Blackboard words, output words, the marker. -/
def queueSinks (env : WaveEnv) (v : WaveVals) (t : TaskId) (r l : Nat) (s : State) : State :=
  let bb := (sinkWords env v 9 rwBbWord rwBbBit r).map (fun e => QEntry.bb t e.1 e.2.1 e.2.2)
  let qw := (waveOutputs env v r).map (fun e => QEntry.qw t e.1 e.2 waveTag)
  setQueue r (queueOf s r ++ bb ++ qw ++ [.marker t l]) s

/-- Put a region in fault state: the first fault is recorded and stands until a restart or a load clears it, a Diary record is
raised (R18, R48, R57). -/
def regionFault (r : Nat) (f : Word) (s : State) : State :=
  if (s.region r).fault ≠ 0 then s
  else
    let s := s.modRegion r (fun x => { x with st := .fault, fault := f })
    diaryRaise 0x0001 (BitVec.ofNat 16 r) (wordBytes f) s

end Sys2Proof.Machine
end

