-- ==== Sys2Proof/Machine/Retain.lean ====
section
/-! DEFINITION. Retain data: the set, the save into a bank, the restore at Dawn, what a full image load carries (R143–R146,
Tables 5-10 to 5-13). -/

namespace Sys2Proof.Machine

/-- Frame bytes of an instance: LOCAL of its HOME engine or SHARED. -/
def frameRead (s : State) (d : DescCfg) : List Byte :=
  if d.home = 0xFF then readBytes s.shared (d.addr.toNat - 0x1000000) d.size.toNat
  else readBytes (s.engine d.home.toNat).local_ d.addr.toNat d.size.toNat
def frameWrite (d : DescCfg) (bs : List Byte) (s : State) : State :=
  if d.home = 0xFF then { s with shared := writeBytes s.shared (d.addr.toNat - 0x1000000) bs }
  else s.modEngine d.home.toNat (fun e => { e with local_ := writeBytes e.local_ d.addr.toNat bs })

def descRetained (d : DescCfg) : Bool := d.flags.getLsbD 1 && d.flags.getLsbD 0
def routeRetained (r : RouteCfg) : Bool := r.out && r.flags.getLsbD 0
/-- The retained cells of a region's active plane. -/
def retainedCells (p : Plane) : List Nat :=
  (p.cells.filter (fun e => cellUsed e.2 && cellRetain e.2 && decide (cellMode e.2 ≠ 0))).map (·.1)

def enumFrom {α : Type} : Nat → List α → List (Nat × α)
  | _, [] => []
  | n, x :: r => (n, x) :: enumFrom (n + 1) r

/-- Table 5-10. -/
def retainSet (s : State) : List RetObj :=
  (s.run.routes.filter routeRetained).map (fun r => .word r.num r.owner (s.qwGet r.num))
    ++ (s.timers.filter (fun e => e.2.used && e.2.retain)).map (fun e => .timer e.1 e.2.kind e.2.elapsed e.2.inp e.2.q e.2.run)
    ++ ((enumFrom 0 s.run.descs).filter (fun e => descRetained e.2)).map
        (fun e => .frame e.1 e.2.typeId e.2.layout e.2.size e.2.home (frameRead s e.2))
    ++ (regionIds.filter (fun r => !(retainedCells (s.region r).active).isEmpty)).map
        (fun r => .region r ((s.region r).bits.filter (fun b => (retainedCells (s.region r).active).contains b.1)))

/-- The newer of the valid banks, if any: true for the second bank. -/
def newerBank (s : State) (ok : RetBank → Bool) : Option Bool :=
  match ok s.img.bank0, ok s.img.bank1 with
  | true, true => some (ahead s.img.bank1.seq s.img.bank0.seq)
  | true, false => some false
  | false, true => some true
  | false, false => none
def bankOf (s : State) (second : Bool) : RetBank := if second then s.img.bank1 else s.img.bank0
def setBank (second : Bool) (b : RetBank) (s : State) : State :=
  if second then { s with img := { s.img with bank1 := b } } else { s with img := { s.img with bank0 := b } }

/-- The save reads the retained state bits, and the parity checker judges each (R62): the first wrong one puts its region in
fault state; the bits are saved as they stand (log 37). -/
def saveParity (s : State) : State :=
  regionIds.foldl (fun s r =>
    match (retainedCells (s.region r).active).find? (fun a => tget false (s.region r).bits a != tget false (s.region r).parity a) with
    | some a => regionFault r (rgFaultCell 1 false a) s
    | none => s) s

/-- RETAIN_SAVE (R144): into the bank that does not hold the newer valid set. -/
def retainSave (s : State) : State :=
  let s := saveParity s
  let newer := newerBank s (fun b => b.valid && b.crcOk)
  let target := match newer with | some b => !b | none => false
  let seq := match newer with | some b => (bankOf s b).seq + 1 | none => 0
  let s := setBank target ⟨true, seq, s.gen, s.opMs, powerCycles s, true, retainSet s, mfRetainFmt (runningBank s).manifest⟩ s
  { s with img := { s.img with noSave := false } }

/-- The initial value of a retained output word (R404). -/
def outInit (r : RouteCfg) : ImgWord := ⟨0, mkTag 0 (r.group.setWidth 12) 0 true false false false qBad⟩
/-- An input word that no writer has written yet (R404). -/
def inInit (r : RouteCfg) : ImgWord := ⟨0, mkTag (r.endpoint.setWidth 4) (r.group.setWidth 12) 255 false false false false qBad⟩

/-- Whether the running image retains anything, and which tasks own retain data. -/
def retainOwners (s : State) : List Nat :=
  (s.run.routes.filter routeRetained).map (fun r => r.owner.toNat)
    ++ (s.timers.filter (fun e => e.2.used && e.2.retain)).map (fun e => e.2.owner.toNat)
    ++ (s.run.descs.filter descRetained).map (fun d => d.owner.toNat)
    ++ (regionIds.filter (fun r => !(retainedCells (s.region r).active).isEmpty)).filterMap (regionOwner s.run)

/-- Put one saved object back where the running image retains it; a word returns with GLIDE = 1 (R145). -/
def restoreObj (s : State) (o : RetObj) : State :=
  match o with
  | .word n _ w =>
    match s.run.routes.find? (fun r => routeRetained r && r.num == n) with
    | some _ => s.setQw n { w with tag := tagSetGlide w.tag }
    | none => s
  | .timer n _ e i q r =>
    if (s.timer n).used && (s.timer n).retain then
      s.setTimer n { (s.timer n) with elapsed := e, inp := i, q := q, run := r, sat := decide (e = elapsedMax) } else s
  | .frame i _ _ _ _ bs => match s.run.descs[i]? with | some d => if descRetained d then frameWrite d bs s else s | none => s
  | .region r bits =>
    let cs := retainedCells (s.region r).active
    s.modRegion r (fun x =>
      let keep := x.bits.filter (fun b => !cs.contains b.1)
      let nb := (bits.filter (fun b => cs.contains b.1)).foldl (fun t b => tset false t b.1 b.2) keep
      let edges := x.prime.filter (fun a => !cs.contains a)
      { x with bits := nb, parity := nb, prime := edges })

/-- Codes of RET_STATUS.RESULT (Table 5-13). -/
def retRestored : Nat := 1
def retStale : Nat := 2
def retLostNoSet : Nat := 3
def retLostCrc : Nat := 4
def retLostGen : Nat := 5
def retCarried : Nat := 6

def setRetResult (second : Bool) (result : Nat) (s : State) : State :=
  { s with img := { s.img with retStatus := boolBit 8 second ||| natAt 0 result } }
/-- RET_SAVED_MS shows the set restored at Dawn (Table 5-12). -/
def setRetStatus (second : Bool) (result saved : Nat) (s : State) : State :=
  let s := setRetResult second result s
  { s with img := { s.img with retSaved := BitVec.ofNat 32 saved } }

/-- The restore of R145, for a set saved under the running generation. `via` is the edit's map for an older set (R168):
it turns the saved objects into those of the new generation. -/
def retainRestore (base : Option (Word × (List RetObj → List RetObj))) (s : State) : State :=
  if retainOwners s = [] then setRetStatus false 0 0 s
  else
    let ok (g : Word) (b : RetBank) := b.valid && b.crcOk && decide (b.gen = g)
    match newerBank s (ok s.gen) with
    | some i =>
      let b := bankOf s i
      setRetStatus i (if s.img.noSave then retStale else retRestored) b.saved (b.objs.foldl restoreObj s)
    | none =>
      let viaMap := match base with
        | some (g, f) => (match newerBank s (fun b => b.valid && b.crcOk) with
          | some i => if (bankOf s i).gen = g then some (i, f) else none
          | none => none)
        | none => none
      match viaMap with
      | some (i, f) => setRetStatus i retStale (bankOf s i).saved ((f (bankOf s i).objs).foldl restoreObj s)
      | none =>
        let why := match newerBank s (fun b => b.valid) with
          | none => retLostNoSet
          | some _ => if (newerBank s (fun b => b.valid && b.crcOk)).isNone then retLostCrc else retLostGen
        let s := (retainOwners s).eraseDups.foldl (fun s t =>
          s.modTask t (fun x => { x with fault := x.fault ||| boolBit tfRetainLost true })) s
        setRetStatus false why 0 s

/-- What a full image load carries from the set saved in its stage 8 (R146), `old` being the image that saved it. -/
def carryObj (old : ImageCfg) (s : State) (o : RetObj) : State :=
  match o with
  | .word n owner w =>
    if s.run.routes.any (fun r => routeRetained r && r.num == n && r.owner == owner) then
      s.setQw n { w with tag := tagSetGroup w.tag (tagGroup (s.qwGet n).tag) } else s
  | .timer n k e i q r =>
    let x := s.timer n
    if x.used ∧ x.retain ∧ x.kind = k then
      s.setTimer n { x with elapsed := e, inp := i, q := q, run := r, sat := decide (e = elapsedMax) } else s
  | .frame i ty lay size _ bs =>
    match s.run.descs[i]?, old.descs[i]? with
    | some d, some _ => if descRetained d ∧ d.typeId = ty ∧ d.layout = lay ∧ d.size = size then frameWrite d bs s else s
    | _, _ => s
  | .region _ _ => s

end Sys2Proof.Machine
end

