-- ==== Sys2Proof/Machine/Reset.lean ====
section
/-! DEFINITION. Entry into a full reset (R382, R383, Tables 16-9, 16-10): outputs told to glide, the token released, the
cause latched, everything cleared that a reset clears. -/

namespace Sys2Proof.Machine

/-! ### Reset causes (Table 16-9) -/

def rcDusk : Byte := 0x02
def rcRstN : Byte := 0x03
def rcButton : Byte := 0x04
def rcButtonRecovery : Byte := 0x05
def rcHostReset : Byte := 0x06
def rcUpdate : Byte := 0x07
def rcHandover : Byte := 0x08
def rcDisqualified : Byte := 0x09
def rcEcc : Byte := 0x10
def rcClockLoss : Byte := 0x11
def rcWatchdog : Byte := 0x12
def rcSelftest : Byte := 0x13
def rcThermal : Byte := 0x14
def chipLevel (code : Byte) : Bool := decide (0x10 ≤ code.toNat) && decide (code.toNat ≤ 0x13)

/-- SUP_RESET_CAUSE (Table 16-20). -/
def resetCause (s : State) : Word := atBit 16 s.sup.source ||| atBit 8 s.sup.detail ||| atBit 0 s.sup.code

/-! ### The plant side -/

/-- A KRIO frame (Tables 9-2, 9-3); its FLAGS are 0, as in every frame of the module. -/
def krioFrame (type_ : Byte) (st : Nat) (seq : Half) (time cfg param : Word) (body : List Byte) : List Byte :=
  let b := [1, type_, BitVec.ofNat 8 st, 0] ++ halfBytes seq ++ leBytes 2 body.length ++ wordBytes time ++ wordBytes cfg
    ++ wordBytes param ++ body
  b ++ wordBytes (crc32c b)

/-- GLIDE_ALL on every ring port, three times, then silence (R228). -/
def sendGlideAll (s : State) : State :=
  if s.net.ring = 0 ∨ s.net.silent then s
  else { s with net := { s.net with glideAll := s.net.glideAll + 3, silent := true, sent := krioFrame 5 0 0 0 0 0 [] } }

def chanIds : List Nat := List.range 48

/-- A DATA field of QWn with GLIDE = 1 (R210, R278). -/
def glideField (s : State) (c : Nat) : OutField :=
  let w := s.qwGet c
  ⟨.data, 0, (s.chan c).out.seq + 1, BitVec.ofNat 16 s.tbrd, w.data, tagSetGlide w.tag, s.now⟩
/-- The hub's GLIDE slot, for every channel (Tables 1-7, 8-14). -/
def hubGlideSlot (s : State) : State := chanIds.foldl (fun s c => s.modChan c (fun x => { x with out := glideField s c })) s

/-- What IL_OUT± carries: nothing where the interlock stage is not fitted (R7), else the released or the held level. -/
inductive IlOut where
  | open_ | released | held
  deriving DecidableEq, Repr
def ilOut (s : State) : IlOut :=
  if !s.variant.redundancy then .open_ else if s.red.ilOut then .held else .released

/-- IL_OUT at the released level, the token gone (R279). -/
def releaseToken (s : State) : State :=
  let s := if s.red.oe then setIrq 3 s else s
  { s with red := { s.red with ilOut := false, token := false, oe := false, claiming := false, waitFree := false } }

/-! ### Clearing -/

/-- What a die keeps through a reset is everything; the hub starts anew but for CH_DIAG (R188, R209, Table 16-10). -/
def keepDies (t : Tab ChanSt) : Tab ChanSt :=
  t.foldl (fun n e => tset {} n e.1 { ({} : ChanSt) with die := e.2.die, out := e.2.out, diag := e.2.diag }) []

/-- When each region and engine last raised its record of corrections, which bounds the next one (R57, R84). -/
def keepRegionMinutes (t : Tab RegionSt) : Tab RegionSt := t.foldl (fun n e => tset {} n e.1 { ({} : RegionSt) with corrAt := e.2.corrAt }) []
def keepEngineMinutes (t : Tab EngineSt) : Tab EngineSt := t.foldl (fun n e => tset {} n e.1 { ({} : EngineSt) with corrAt := e.2.corrAt }) []

/-- The state after everything is cleared that a full reset clears (Table 16-10). -/
def cleared (s : State) : State :=
  { State.reset with
    pending := s.pending, opMs := s.opMs, opNs := s.opNs, free := s.free, stamp := s.stamp, clockNs := s.clockNs, variant := s.variant
    sup := { State.reset.sup with
      code := s.sup.code, detail := s.sup.detail, source := s.sup.source, causeOp := s.sup.causeOp
      recoveryReq := s.sup.recoveryReq, ps1 := s.sup.ps1, ps2 := s.sup.ps2, holdup := s.sup.holdup, power := s.sup.power
      ps1Ok := s.sup.ps1Ok, ps2Ok := s.sup.ps2Ok, holdAt := s.sup.holdAt, inputLost := s.sup.inputLost
      lossNs := s.sup.lossNs, backAt := s.sup.backAt
      button := s.sup.button, stuck := s.sup.stuck, tempDie := s.sup.tempDie, tempBase := s.sup.tempBase
      maxDie := s.sup.maxDie, maxBase := s.sup.maxBase, thermWarn := s.sup.thermWarn, dieWarn := s.sup.dieWarn
      thermHold := s.sup.thermHold, refLost := s.sup.refLost, lossOp := s.sup.lossOp, console := s.sup.console
      powerLost := false }
    rtc := { s.rtc with syncAt := none, commit := if s.rtc.syncing then none else s.rtc.commit, syncing := false }
    net := { State.reset.net with glideAll := s.net.glideAll, silent := s.net.silent, sent := s.net.sent }
    stor := { (abandonErases s).stor with
      ready := false, psTimes := [], dcTimes := [], dawnRepair := false, refreshed := 0, refreshPass := 0 }
    img := { State.reset.img with bank0 := s.img.bank0, bank1 := s.img.bank1, noSave := s.img.noSave }
    diary := { State.reset.diary with
      journal := s.diary.journal, nextSeq := s.diary.nextSeq, drainSeq := s.diary.drainSeq, writeSlot := s.diary.writeSlot
      ctl0 := s.diary.ctl0, ctl1 := s.diary.ctl1, ring := s.diary.ring, head := s.diary.head, readySec := s.diary.readySec
      lost := s.diary.lost, lostFirst := s.diary.lostFirst, lostLast := s.diary.lostLast }
    regions := keepRegionMinutes s.regions, engines := keepEngineMinutes s.engines
    chans := keepDies s.chans
    cfg := { s.cfg with section_ := 0, stage := 0, status := 0, detail := 0, digest := 0, job := none
                        consolid := s.cfg.consolid }
    safe := { State.reset.safe with accSeal := s.safe.accSeal, log := s.safe.log, logSeq := s.safe.logSeq
                                    wrong := s.safe.wrong, lockEnd := s.safe.lockEnd }
    red := { State.reset.red with disqAt := s.red.disqAt, sent := s.red.sent }
    upd := { s.upd with result := 0, progress := 0 } }

/-- FULL_RESET of the cause latched (Table 13-3). -/
def fullResetDetail (s : State) : List Byte := wordBytes (resetCause s) ++ [0, 0, 0, 0] ++ leBytes 8 s.sup.causeOp

/-- FULL_RESET (R382): the outputs glide, the token is released, the cause is latched; every record raised and every pending
count is entered unless the error is at chip level (R329, R331, log 37). `slot` tells whether the hub can still send its GLIDE slot. -/
def enterReset (code source detail : Byte) (slot : Bool) (s : State) : State :=
  if s.sup.phase = .reset then s
  else
    let s := releaseToken (sendGlideAll (if slot then hubGlideSlot s else s))
    let s := { s with sup := { s.sup with code := code, source := source, detail := detail, causeOp := s.opMs } }
    let s := if chipLevel code then s else enterSummaries (enterAll (diaryRaise 0xF001 noInst (fullResetDetail s) s))
    cleared s

/-- A reset that saves nothing: the next restore reads STALE (R145). -/
def resetUnsaved (code source detail : Byte) (slot : Bool) (s : State) : State :=
  enterReset code source detail slot (if s.sup.phase = .reset then s else { s with img := { s.img with noSave := true } })

/-- A reset that follows a posted result, `ns` later (R396). -/
def resetSoon (code : Byte) (ns : Nat) (s : State) : State :=
  if s.sup.resetAt.isSome then s else { s with sup := { s.sup with resetAt := some (code, s.now + ns) } }

end Sys2Proof.Machine
end

