-- ==== Sys2Proof/Machine/Health.lean ====
section
/-! DEFINITION. What other units ask of the redundancy controller: a handover under the health policy, and the
disqualification of a standby (R289, R291, Table 11-8). -/

namespace Sys2Proof.Machine

/-! ### SO_CAUSE and DISQ_CAUSE (Table 11-11) -/

def soReset : Nat := 1
def soOverrun : Nat := 2
def soWatchdog : Nat := 3
def soRegion : Nat := 4
def soSafe : Nat := 5
def soCommand : Nat := 6
def dqMismatch : BitVec 4 := 1
def dqLag : BitVec 4 := 2
def dqLink : BitVec 4 := 3
def dqToken : BitVec 4 := 4
def dqSelftest : BitVec 4 := 5
def dqResync : BitVec 4 := 6
def dqIncompatible : BitVec 4 := 7

/-- A module in TRIAL appends a REVERT record with VALUE 4 where it would stay disqualified (R364). -/
def revertDisq (s : State) : State :=
  let b := s.upd.bankB
  let m := (runningBank s).manifest
  let r : UpdRec := ⟨5, !b, b, mfVersion m, 4, 0, mfId m, s.opMs, powerCycles s⟩
  { s with upd := { s.upd with recs := s.upd.recs ++ [r], reverted := true, outcome := 5 } }

/-- DISQUALIFICATION (R289): DISQUALIFIED, Diary, Report Card, full reset; after the third within 3,600 s the module stays. A
Dusk that has begun completes (R374). -/
def disqualify (cause : BitVec 4) (s : State) : State :=
  if !(s.red.st == .syncing || s.red.st == .comparing || s.red.st == .ready) then s
  else
    let s := setRed .disqualified false false { s with red := { s.red with disq := cause, ilOut := false, step := 0 } }
    let s := { s with red := { s.red with disqAt := s.red.disqAt.filter (fun t => decide (s.opMs < t + 3600000)) ++ [s.opMs] } }
    let s := diaryRaise 0x9002 noInst ([cause.setWidth 8, 0, 0, 0] ++ wordBytes s.red.mmWhere ++ wordBytes s.red.mmAct) s
    let s := trelexClose (sendCard s)
    if s.sup.phase = .dusk then s
    else if disqHour s < 3 then resetUnsaved rcDisqualified 0xFF 0 true s
    else if s.upd.st = .trial then resetUnsaved rcDisqualified 0xFF 0 true (revertDisq s)
    else taskIds.foldl (fun s t => if (s.task t).busy then abortTask t s else s) s

/-- A fault of the health policy: an ACTIVE module with a READY standby hands over; a standby is disqualified for its own
region, ECC and SAFE_STOP faults (Table 11-8, R289). -/
def healthRequest (cause : Nat) (s : State) : State :=
  if s.red.st = .active ∧ partnerReady s ∧ s.red.handover.isNone then
    { s with red := { s.red with handover := some (BitVec.ofNat 4 cause) } }
  else if (standby s ∨ s.red.st = .syncing) ∧ (cause = soRegion ∨ cause = soSafe) then disqualify dqSelftest s
  else s

end Sys2Proof.Machine
end

