-- ==== Sys2Proof/Machine/FbOps.lean ====
section
/-! DEFINITION. What every FB instruction shares: the running Lesson, the fetch and its faults (R81, R84), registers (Table
4-3), stopping faults (R109) and flags (R110), the data address map (Tables 4-2, 10-2). -/

namespace Sys2Proof.Machine

/-- The safety engines' number (R252, Table 10-1); it stands for SA and SB (DEDUCED, log 40). -/
def safeEng : Nat := 24

def wGet (s : State) (e : EngId) (r : Reg) : Dword := if r = 0 then 0 else tget 0 (s.engine e).w r
/-- Write a register; W0 discards it (Table 4-3). -/
def wSet (e : EngId) (r : Reg) (v : Dword) (s : State) : State :=
  if r = 0 then s else s.modEngine e (fun x => { x with w := tset 0 x.w r v })

def pcOf (s : State) (e : EngId) : Dword := (s.engine e).pc
def setPc (e : EngId) (p : Dword) (s : State) : State := s.modEngine e (fun x => { x with pc := p })
def pcNext (e : EngId) (s : State) : State := setPc e (pcOf s e + 4) s

/-- The instruction word at PC. -/
def instrWord (s : State) (e : EngId) : Word := BitVec.ofNat 32 (ofLe (readBytes (s.engine e).iram (pcOf s e).toNat 4))

/-! ### Faults and flags -/

def fcIllegal : Nat := 1
def fcAlign : Nat := 2
def fcBus : Nat := 3
def fcEcc : Nat := 4
def fcInstance : Nat := 5
def fcTrap : Nat := 6

/-- A stopping fault of engine `e` in a Lesson of Tt: CAUSE and ENGINE keep the first, the record is raised, the task stops
(R109, R111); an ECC fault asks for a handover (Table 11-8). `aux` is the data address, n or code. -/
def fbStop (e : EngId) (t : TaskId) (cause : Nat) (word : Word) (aux : Nat) (s : State) : State :=
  let f := (s.task t).fault
  let s := if (f >>> 12) &&& 0xF = 0 then
      s.modTask t (fun x => { x with fault := (x.fault &&& 0xFFFF007F) ||| natAt 12 cause ||| natAt 7 e.val }) else s
  let s := diaryRaise 0x2001 (BitVec.ofNat 16 t.val)
      ([BitVec.ofNat 8 e.val, BitVec.ofNat 8 cause, 0, 0] ++ leBytes 4 (pcOf s e).toNat ++ wordBytes word ++ leBytes 8 aux) s
  let s := stopTask t 2 s
  if cause = fcEcc then healthRequest soRegion s else s

/-- A flag: set by the instruction that causes it; the record only when it changes from 0 to 1 (R110, R111). -/
def fbFlag (e : EngId) (t : TaskId) (bit : Nat) (s : State) : State :=
  if (s.task t).fault.getLsbD bit then s
  else
    let s := diaryRaise 0x2002 (BitVec.ofNat 16 t.val)
      ([BitVec.ofNat 8 e.val, BitVec.ofNat 8 bit, 0, 0] ++ leBytes 4 (pcOf s e).toNat) s
    s.modTask t (fun x => { x with fault := x.fault ||| boolBit bit true })

def fbFlagIf (b : Bool) (e : EngId) (t : TaskId) (bit : Nat) (s : State) : State := if b then fbFlag e t bit s else s

/-- The fault of the fetch at PC, if any: BUS above the instruction SRAM, ECC of a failed word (R81, R84, Table 10-1). -/
def fetchFault (s : State) (e : EngId) : Option Nat :=
  let p := (pcOf s e).toNat
  if p ≥ (if e.val = safeEng then 0x20000 else 0x40000) then some fcBus
  else if (s.engine e).eccInstr.contains (p / 8) then some fcEcc
  else none

/-- Engine `e` issues an instruction of its running Lesson: the fetch, then `k` with the running task. An engine that runs
no Lesson issues nothing (R86). A fault of the fetch has no data address; ENGINE_STOP carries the PC there (DESIGN CHOICE, log 42). -/
def fbStep (e : EngId) (k : TaskId → State → State) (s : State) : Out :=
  .next (match (s.engine e).run with
    | .lesson t _ =>
      match fetchFault s e with
      | some c => fbStop e t c (instrWord s e) (pcOf s e).toNat s
      | none => k t s
    | _ => s)

/-- An instruction that writes one register and raises nothing. -/
def fbWrite (e : EngId) (rd : Reg) (v : State → Dword) (s : State) : Out :=
  fbStep e (fun _ s => pcNext e (wSet e rd (v s) s)) s

/-- Wd := f(Wa, Wb). -/
def fbAlu2 (e : EngId) (rd ra rb : Reg) (f : Dword → Dword → Dword) (s : State) : Out :=
  fbWrite e rd (fun s => f (wGet s e ra) (wGet s e rb)) s

/-- Wd := f(Wa). -/
def fbAlu1 (e : EngId) (rd ra : Reg) (f : Dword → Dword) (s : State) : Out :=
  fbWrite e rd (fun s => f (wGet s e ra)) s

/-- Wd := value of f(Wa, Wb); a true second part sets TASK_FAULT.ARITH (R94, R96). -/
def fbAluFlag (e : EngId) (rd ra rb : Reg) (f : Dword → Dword → Dword × Bool) (s : State) : Out :=
  fbStep e (fun t s =>
    let r := f (wGet s e ra) (wGet s e rb)
    pcNext e (wSet e rd r.1 (fbFlagIf r.2 e t tfArith s))) s

/-- An instruction that SA and SB do not execute: ILLEGAL there (Table 10-1). -/
def fbMain (e : EngId) (k : TaskId → State → State) (s : State) : Out :=
  fbStep e (fun t s => if e.val = safeEng then fbStop e t fcIllegal (instrWord s e) 0 s else k t s) s

/-! ### Sign and zero extension -/

def sext64 {w : Nat} (v : BitVec w) : Dword := v.signExtend 64
def zext64 {w : Nat} (v : BitVec w) : Dword := v.setWidth 64
def low32 (v : Dword) : Word := v.setWidth 32
def boolD (b : Bool) : Dword := if b then 1 else 0

/-! ### Data memory -/

/-- Where an address lies (Tables 4-2, 10-2). -/
inductive MemPlace where
  | local_ | shared | safeIn | safeOut | unmapped
  deriving DecidableEq, Repr

def memPlace (e : EngId) (a : Nat) : MemPlace :=
  if e.val = safeEng then
    if a < 0x20000 then .local_
    else if 0x400000 ≤ a ∧ a < 0x404400 then .safeIn
    else if 0x410000 ≤ a ∧ a < 0x414400 then .safeOut
    else .unmapped
  else if a < 0x40000 then .local_
  else if 0x1000000 ≤ a ∧ a < 0x2000000 then .shared
  else .unmapped

/-- The task that the safety parameter set names for the pair or connection at offset `o` of SAFE_OUT (R253). -/
def safeOutTask (s : State) (o : Nat) : Option Nat :=
  if o < 0x60 then
    let p := tget {} s.safe.pairs (o / 4); if p.used then some p.task else none
  else if 0x400 ≤ o then
    let c := tget {} s.safe.conns ((o - 0x400) / 0x100); if c.used then some c.task else none
  else none

/-- `n` bytes at a mapped, aligned address. -/
def memRead (s : State) (e : EngId) (a n : Nat) : List Byte :=
  match memPlace e a with
  | .local_ => readBytes (s.engine e).local_ a n
  | .shared => readBytes s.shared (a - 0x1000000) n
  | .safeIn => readBytes s.safe.safeIn (a - 0x400000) n
  | .safeOut => readBytes s.safe.safeOut (a - 0x410000) n
  | .unmapped => []

/-- Store bytes at offset `o` of SAFE_OUT: those of a pair or connection of another task are ignored (R253). -/
def writeSafeOut (t : TaskId) (o : Nat) (bs : List Byte) (s : State) : State :=
  { s with safe := { s.safe with safeOut := (List.range bs.length).foldl (fun m i =>
      if safeOutTask s (o + i) = some t.val then writeByte m (o + i) (bs.getD i 0) else m) s.safe.safeOut } }
/-- Store bytes at a mapped, aligned address. A store of a whole 64-bit LOCAL word clears its failed mark (R84). -/
def memWrite (e : EngId) (t : TaskId) (a : Nat) (bs : List Byte) (s : State) : State :=
  match memPlace e a with
  | .local_ => s.modEngine e (fun x => { x with
      local_ := writeBytes x.local_ a bs
      eccWords := if bs.length = 8 then x.eccWords.filter (fun w => w ≠ a / 8) else x.eccWords })
  | .shared => { s with shared := writeBytes s.shared (a - 0x1000000) bs }
  | .safeOut => writeSafeOut t (a - 0x410000) bs s
  | _ => s

/-- The fault of a load of `n` bytes at `a`: alignment first, then the map, then a failed LOCAL word (R81, R84). -/
def loadFault (s : State) (e : EngId) (a n : Nat) : Option Nat :=
  if a % n ≠ 0 then some fcAlign
  else match memPlace e a with
    | .unmapped => some fcBus
    | .local_ => if (s.engine e).eccWords.contains (a / 8) then some fcEcc else none
    | _ => none

/-- The fault of a store: SAFE_IN is read only (Table 10-1). -/
def storeFault (e : EngId) (a n : Nat) : Option Nat :=
  if a % n ≠ 0 then some fcAlign
  else match memPlace e a with
    | .unmapped => some fcBus
    | .safeIn => some fcBus
    | _ => none

/-- The fault of an AMO: only SHARED has AMO (R81). -/
def amoFault (e : EngId) (a n : Nat) : Option Nat :=
  if a % n ≠ 0 then some fcAlign else if memPlace e a = .shared then none else some fcBus

end Sys2Proof.Machine
end

