-- ==== Sys2Proof/Machine/FbFp.lean ====
section
/-! DEFINITION. Binary floating point after IEEE 754 in exact integer arithmetic with one rounding, the FP group and CVT
(Table 4-9, R95, R96). -/

namespace Sys2Proof.Machine

/-- A binary interchange format: exponent and fraction widths. -/
structure FmtP where
  e : Nat
  m : Nat
  deriving DecidableEq, Repr

def fmtOf : FpFmt → FmtP
  | .s => ⟨8, 23⟩
  | .d => ⟨11, 52⟩
def FmtP.width (f : FmtP) : Nat := 1 + f.e + f.m
def FmtP.bias (f : FmtP) : Nat := 2 ^ (f.e - 1) - 1
/-- Exponent of the least significant bit of a subnormal number. -/
def FmtP.eMin (f : FmtP) : Int := 1 - (f.bias : Int) - (f.m : Int)
def FmtP.infBits (f : FmtP) : Nat := (2 ^ f.e - 1) * 2 ^ f.m
/-- The canonical quiet NaN (R95). -/
def FmtP.qnan (f : FmtP) : Nat := f.infBits + 2 ^ (f.m - 1)
def FmtP.signBit (f : FmtP) : Nat := 2 ^ (f.e + f.m)

/-- What an operand is: NaN (quiet or signalling), infinity, or the exact value mant × 2^exp. -/
inductive FpVal where
  | nan (quiet : Bool)
  | inf (neg : Bool)
  | fin (neg : Bool) (mant : Nat) (exp : Int)
  deriving DecidableEq, Repr

def fpUnpack (f : FmtP) (b : Nat) : FpVal :=
  let neg := decide (b / f.signBit % 2 = 1)
  let ex := b / 2 ^ f.m % 2 ^ f.e
  let fr := b % 2 ^ f.m
  if ex = 2 ^ f.e - 1 then (if fr = 0 then .inf neg else .nan (decide (2 ^ (f.m - 1) ≤ fr)))
  else if ex = 0 then .fin neg fr f.eMin
  else .fin neg (fr + 2 ^ f.m) (f.eMin + (ex - 1 : Nat))

def FpVal.isNan : FpVal → Bool
  | .nan _ => true
  | _ => false

/-- Round mant × 2^exp (plus a non-zero part below it when `sticky`) to the format: to nearest, ties to even, or toward
zero. -/
def fpRound (f : FmtP) (neg : Bool) (mant : Nat) (exp : Int) (sticky rtz : Bool) : Nat :=
  let sgn := if neg then f.signBit else 0
  if mant = 0 then sgn
  else
    let len := Nat.log2 mant + 1
    let lsb := max (exp + (len : Int) - ((f.m : Int) + 1)) f.eMin
    let sh := lsb - exp
    let q := if sh ≤ 0 then mant * 2 ^ (-sh).toNat else mant / 2 ^ sh.toNat
    let rem := if sh ≤ 0 then 0 else mant % 2 ^ sh.toNat
    let half := if sh ≤ 0 then 0 else 2 ^ (sh.toNat - 1)
    let up := !rtz && decide (0 < sh) && (decide (half < rem) || (decide (rem = half) && (sticky || decide (q % 2 = 1))))
    let q := if up then q + 1 else q
    let bits := (lsb - f.eMin).toNat * 2 ^ f.m + q
    if f.infBits ≤ bits then sgn + (if rtz then f.infBits - 1 else f.infBits) else sgn + bits

def fpAdd (f : FmtP) (a b : FpVal) : Nat :=
  match a, b with
  | .nan _, _ => f.qnan
  | _, .nan _ => f.qnan
  | .inf n, .inf n' => if n = n' then f.infBits + (if n then f.signBit else 0) else f.qnan
  | .inf n, .fin .. => f.infBits + (if n then f.signBit else 0)
  | .fin .., .inf n => f.infBits + (if n then f.signBit else 0)
  | .fin n m x, .fin n' m' x' =>
    let lo := min x x'
    let v : Int := (if n then -1 else 1) * (m * 2 ^ (x - lo).toNat : Nat) + (if n' then -1 else 1) * (m' * 2 ^ (x' - lo).toNat : Nat)
    if v = 0 then (if n && n' then f.signBit else 0)
    else fpRound f (decide (v < 0)) v.natAbs lo false false

def FpVal.negate : FpVal → FpVal
  | .nan q => .nan q
  | .inf n => .inf !n
  | .fin n m x => .fin (!n) m x

def fpMul (f : FmtP) (a b : FpVal) : Nat :=
  match a, b with
  | .nan _, _ => f.qnan
  | _, .nan _ => f.qnan
  | .inf n, .inf n' => f.infBits + (if n != n' then f.signBit else 0)
  | .inf n, .fin n' m _ => if m = 0 then f.qnan else f.infBits + (if n != n' then f.signBit else 0)
  | .fin n m _, .inf n' => if m = 0 then f.qnan else f.infBits + (if n != n' then f.signBit else 0)
  | .fin n m x, .fin n' m' x' => fpRound f (n != n') (m * m') (x + x') false false

def fpDiv (f : FmtP) (a b : FpVal) : Nat :=
  match a, b with
  | .nan _, _ => f.qnan
  | _, .nan _ => f.qnan
  | .inf _, .inf _ => f.qnan
  | .inf n, .fin n' _ _ => f.infBits + (if n != n' then f.signBit else 0)
  | .fin n _ _, .inf n' => if n != n' then f.signBit else 0
  | .fin n m x, .fin n' m' x' =>
    if m' = 0 then (if m = 0 then f.qnan else f.infBits + (if n != n' then f.signBit else 0))
    else
      let k := 2 * f.m + 8
      fpRound f (n != n') (m * 2 ^ k / m') (x - x' - (k : Int)) (decide (m * 2 ^ k % m' ≠ 0)) false

/-- Integer square root, one bit of the root at a time from bit `k` down. -/
def isqrt : Nat → Nat → Nat → Nat
  | 0, _, r => r
  | k + 1, v, r => let r' := r + 2 ^ k; isqrt k v (if r' * r' ≤ v then r' else r)

def fpSqrt (f : FmtP) (a : FpVal) : Nat :=
  match a with
  | .nan _ => f.qnan
  | .inf n => if n then f.qnan else f.infBits
  | .fin n m x =>
    if m = 0 then (if n then f.signBit else 0)
    else if n then f.qnan
    else
      let k := 2 * f.m + 8 + ((x + (f.m : Int)) % 2).toNat + (f.m % 2)
      let k := if (x - (k : Int)) % 2 = 0 then k else k + 1
      let v := m * 2 ^ k
      let r := isqrt (2 * f.m + 16) v 0
      fpRound f false r ((x - (k : Int)) / 2) (decide (r * r ≠ v)) false

/-- a < b for operands that are no NaN; −0 equals +0. -/
def fpLt (a b : FpVal) : Bool :=
  match a, b with
  | .nan _, _ => false
  | _, .nan _ => false
  | .inf n, .inf n' => n && !n'
  | .inf n, .fin .. => n
  | .fin .., .inf n' => !n'
  | .fin n m x, .fin n' m' x' =>
    let lo := min x x'
    decide ((if n then -1 else 1) * ((m * 2 ^ (x - lo).toNat : Nat) : Int) < (if n' then -1 else 1) * ((m' * 2 ^ (x' - lo).toNat : Nat) : Int))
def fpEq (a b : FpVal) : Bool := !a.isNan && !b.isNan && !fpLt a b && !fpLt b a

/-- FMIN and FMAX: a NaN yields the other operand; −0 is ordered below +0 (Table 4-9). -/
def fpMinMax (f : FmtP) (max : Bool) (a b : Nat) : Nat :=
  let x := fpUnpack f a; let y := fpUnpack f b
  if x.isNan && y.isNan then f.qnan
  else if x.isNan then b
  else if y.isNan then a
  else if fpLt x y then (if max then b else a)
  else if fpLt y x then (if max then a else b)
  else
    let an := decide (a / f.signBit % 2 = 1)
    if max then (if an then b else a) else (if an then a else b)

def fpClass (f : FmtP) (b : Nat) : Nat :=
  match fpUnpack f b with
  | .nan q => if q then 2 ^ 9 else 2 ^ 8
  | .inf n => if n then 2 ^ 0 else 2 ^ 7
  | .fin n m _ =>
    let sub := decide (m < 2 ^ f.m)
    if m = 0 then (if n then 2 ^ 3 else 2 ^ 4)
    else if sub then (if n then 2 ^ 2 else 2 ^ 5)
    else (if n then 2 ^ 1 else 2 ^ 6)

/-- An operation on the operand bits of the format; a .S operation ignores bits [63:32] and writes 0 there (R95). -/
def fbFp (e : EngId) (p : FpFmt) (rd ra rb : Reg) (op : FmtP → Nat → Nat → Nat) (s : State) : Out :=
  let f := fmtOf p
  fbAlu2 e rd ra rb (fun a b => BitVec.ofNat 64 (op f (a.toNat % 2 ^ f.width) (b.toNat % 2 ^ f.width))) s

/-- FADD (R95). -/
def execFadd (e : EngId) (p : FpFmt) (rd ra rb : Reg) (s : State) : Out :=
  fbFp e p rd ra rb (fun f a b => fpAdd f (fpUnpack f a) (fpUnpack f b)) s
/-- FSUB (R95). -/
def execFsub (e : EngId) (p : FpFmt) (rd ra rb : Reg) (s : State) : Out :=
  fbFp e p rd ra rb (fun f a b => fpAdd f (fpUnpack f a) (fpUnpack f b).negate) s
/-- FMUL (R95). -/
def execFmul (e : EngId) (p : FpFmt) (rd ra rb : Reg) (s : State) : Out :=
  fbFp e p rd ra rb (fun f a b => fpMul f (fpUnpack f a) (fpUnpack f b)) s
/-- FDIV (R95). -/
def execFdiv (e : EngId) (p : FpFmt) (rd ra rb : Reg) (s : State) : Out :=
  fbFp e p rd ra rb (fun f a b => fpDiv f (fpUnpack f a) (fpUnpack f b)) s
/-- FSQRT (R95). -/
def execFsqrt (e : EngId) (p : FpFmt) (rd ra : Reg) (s : State) : Out :=
  fbFp e p rd ra ra (fun f a _ => fpSqrt f (fpUnpack f a)) s
/-- FMIN (R95, Table 4-9). -/
def execFmin (e : EngId) (p : FpFmt) (rd ra rb : Reg) (s : State) : Out := fbFp e p rd ra rb (fun f a b => fpMinMax f false a b) s
/-- FMAX (R95, Table 4-9). -/
def execFmax (e : EngId) (p : FpFmt) (rd ra rb : Reg) (s : State) : Out := fbFp e p rd ra rb (fun f a b => fpMinMax f true a b) s
/-- A NaN result is the canonical quiet NaN (R95). -/
def fpCanon (f : FmtP) (b : Nat) : Nat := if (fpUnpack f b).isNan then f.qnan else b
/-- FABS (Table 4-9): clear the sign bit. -/
def execFabs (e : EngId) (p : FpFmt) (rd ra : Reg) (s : State) : Out :=
  fbFp e p rd ra ra (fun f a _ => fpCanon f (a % f.signBit)) s
/-- FNEG (Table 4-9): invert the sign bit. -/
def execFneg (e : EngId) (p : FpFmt) (rd ra : Reg) (s : State) : Out :=
  fbFp e p rd ra ra (fun f a _ => fpCanon f (if f.signBit ≤ a then a - f.signBit else a + f.signBit)) s
/-- FEQ (R95). -/
def execFeq (e : EngId) (p : FpFmt) (rd ra rb : Reg) (s : State) : Out :=
  fbFp e p rd ra rb (fun f a b => (fpEq (fpUnpack f a) (fpUnpack f b)).toNat) s
/-- FLT (R95). -/
def execFlt (e : EngId) (p : FpFmt) (rd ra rb : Reg) (s : State) : Out :=
  fbFp e p rd ra rb (fun f a b => (fpLt (fpUnpack f a) (fpUnpack f b)).toNat) s
/-- FLE (R95). -/
def execFle (e : EngId) (p : FpFmt) (rd ra rb : Reg) (s : State) : Out :=
  fbFp e p rd ra rb (fun f a b => (fpEq (fpUnpack f a) (fpUnpack f b) || fpLt (fpUnpack f a) (fpUnpack f b)).toNat) s
/-- FCLASS (Table 4-9). -/
def execFclass (e : EngId) (p : FpFmt) (rd ra : Reg) (s : State) : Out := fbFp e p rd ra ra (fun f a _ => fpClass f a) s

/-! ### CVT -/

def cvtFmt : CvtKind → Option FmtP
  | .s => some (fmtOf .s)
  | .d => some (fmtOf .d)
  | _ => none
/-- An integer kind's limits. -/
def cvtRange : CvtKind → Int × Int
  | .w => (-2 ^ 31, 2 ^ 31 - 1) | .wu => (0, 2 ^ 32 - 1) | .l => (-2 ^ 63, 2 ^ 63 - 1) | .lu => (0, 2 ^ 64 - 1)
  | _ => (0, 0)
/-- The exact value of a source operand. -/
def cvtSrc (k : CvtKind) (a : Dword) : FpVal :=
  match k with
  | .w => let v := (low32 a).toInt; .fin (decide (v < 0)) v.natAbs 0
  | .wu => .fin false (low32 a).toNat 0
  | .l => .fin (decide (a.toInt < 0)) a.toInt.natAbs 0
  | .lu => .fin false a.toNat 0
  | .s => fpUnpack (fmtOf .s) (a.toNat % 2 ^ 32)
  | .d => fpUnpack (fmtOf .d) a.toNat

/-- mant × 2^exp as an integer, to nearest with ties to even or toward zero. -/
def fpToInt (neg : Bool) (m : Nat) (x : Int) (rtz : Bool) : Int :=
  let v : Nat :=
    if 0 ≤ x then m * 2 ^ x.toNat
    else
      let k := (-x).toNat
      let q := m / 2 ^ k; let r := m % 2 ^ k
      if !rtz && (decide (2 ^ k < 2 * r) || (decide (2 * r = 2 ^ k) && decide (q % 2 = 1))) then q + 1 else q
  if neg then -(v : Int) else v

/-- The exact value ± m × 2^x against the limits of the destination, before any rounding (R96): below, above, or inside. -/
def cvtOut (k : CvtKind) (neg : Bool) (m : Nat) (x : Int) : Ordering :=
  let a : Int := (if neg then -1 else 1) * (m * 2 ^ x.toNat : Nat)
  let u : Int := (2 ^ (-x).toNat : Nat)
  if a < (cvtRange k).1 * u then .lt else if (cvtRange k).2 * u < a then .gt else .eq

/-- CVT's result and whether it sets ARITH (R96). W and WU results fill 64 bits by the kind's sign (Table 4-4). -/
def cvtTo (k : CvtKind) (v : FpVal) (rtz : Bool) : Dword × Bool :=
  match cvtFmt k with
  | some f =>
    (BitVec.ofNat 64 (match v with
      | .nan _ => f.qnan
      | .inf n => f.infBits + (if n then f.signBit else 0)
      | .fin n m x => fpRound f n m x false rtz), false)
  | none =>
    let lo := (cvtRange k).1; let hi := (cvtRange k).2
    match v with
    | .nan _ => (0, true)
    | .inf n => (BitVec.ofInt 64 (if n then lo else hi), true)
    | .fin n m x =>
      match cvtOut k n m x with
      | .lt => (BitVec.ofInt 64 lo, true)
      | .gt => (BitVec.ofInt 64 hi, true)
      | .eq => (BitVec.ofInt 64 (fpToInt n m x rtz), false)

/-- A conversion is legal when at least one kind is S or D and the two differ. -/
def cvtLegal (src dst : CvtKind) : Bool := ((cvtFmt src).isSome || (cvtFmt dst).isSome) && src != dst

/-- CVT (R96); an illegal pair of kinds is ILLEGAL. -/
def execCvt (e : EngId) (src dst : CvtKind) (rtz : Bool) (rd ra : Reg) (s : State) : Out :=
  fbStep e (fun t s =>
    if cvtLegal src dst then
      let r := cvtTo dst (cvtSrc src (wGet s e ra)) rtz
      pcNext e (wSet e rd r.1 (fbFlagIf r.2 e t tfArith s))
    else fbStop e t fcIllegal (instrWord s e) 0 s) s

end Sys2Proof.Machine
end

