-- ==== Sys2Proof/Machine/ChanRec.lean ====
section
/-! DEFINITION. The channel record (Tables 7-11 to 7-14, 8-5, 8-6, 8-10 to 8-13) and its checks (R169, R202), which the
image load and the channel die both make. -/

namespace Sys2Proof.Machine

/-! ### Fields -/

def recMode (r : List Byte) : Byte := fieldB r 0
def recInvert (r : List Byte) : Bool := (fieldW r 0).getLsbD 8
def recWireCheck (r : List Byte) : Bool := (fieldW r 0).getLsbD 9
def recSupplyEn (r : List Byte) : Bool := (fieldW r 0x0C).getLsbD 4
def recLatch (r : List Byte) : Bool := (fieldW r 0x0C).getLsbD 0
def recCountEdge (r : List Byte) : Nat := (fieldW r 0x0C >>> 1).toNat % 4
def recGateEn (r : List Byte) : Bool := (fieldW r 0x0C).getLsbD 3
def recFailDir (r : List Byte) : Nat := (fieldW r 0x20).toNat % 4
def recNe43 (r : List Byte) : Bool := (fieldW r 0x20).getLsbD 2
def recFailLow (r : List Byte) : Nat := field r 0x24 4
def recFailHigh (r : List Byte) : Nat := field r 0x28 4
def recStart (r : List Byte) : Nat := field r 0x30 4
def glKind (r : List Byte) : Nat := field r 0x40 1
def glSegs (r : List Byte) : Nat := field r 0x41 1
def glDelay (r : List Byte) : Nat := field r 0x44 4
def glResume (r : List Byte) : Nat := field r 0x48 4
def segTarget (r : List Byte) (i : Nat) : Nat := field r (0x50 + 12 * i) 4
def segSlope (r : List Byte) (i : Nat) : Nat := field r (0x54 + 12 * i) 4
def segDwell (r : List Byte) (i : Nat) : Nat := field r (0x58 + 12 * i) 4
def glPulses (r : List Byte) : Nat := field r 0x58 4

/-! ### Modes (Table 7-1) -/

def modeListed (m : Nat) : Bool := decide (m ≤ 7) || (decide (0x10 ≤ m) && decide (m ≤ 0x13))
def modeDigIn (m : Nat) : Bool := m == 1 || m == 2 || m == 3 || m == 4 || m == 7
def modeDigOut (m : Nat) : Bool := m == 5 || m == 6
def modeAnaIn (m : Nat) : Bool := m == 0x10 || m == 0x11 || m == 0x12
def modeAo (m : Nat) : Bool := m == 0x13
def modeOut (m : Nat) : Bool := modeDigOut m || modeAo m
/-- Modes that need the SAFETY unit (R6). -/
def modeSafety (m : Nat) : Bool := m == 6 || m == 7

/-! ### Checks, each with the offset of its field, in ascending order -/

def inRange (lo hi v : Nat) : Bool := decide (lo ≤ v) && decide (v ≤ hi)
def allZero (r : List Byte) (lo hi : Nat) : Bool := ((r.drop lo).take (hi - lo)).all (· == 0)
/-- Words of 4 bytes from `lo` up to `hi` that must be 0. -/
def zeroWords (r : List Byte) (lo n : Nat) : List (Nat × Bool) :=
  (List.range n).map (fun i => (lo + 4 * i, decide (field r (lo + 4 * i) 4 = 0)))

/-- KINDs that a mode allows (Table 8-11). -/
def glKindOk (m k : Nat) : Bool :=
  if modeAo m then k == 1 || k == 2
  else if m = 5 then decide (0x10 ≤ k) && decide (k ≤ 0x13)
  else if m = 6 then k == 0x10
  else k == 0

def segChecks (r : List Byte) (i : Nat) : List (Nat × Bool) :=
  [ (0x50 + 12 * i, decide (segTarget r i ≤ 24000000) || decide (0xFFFFFFFE ≤ segTarget r i)),
    (0x54 + 12 * i, inRange 100 24000000 (segSlope r i)),
    (0x58 + 12 * i, decide (segDwell r i ≤ 3600000)) ]

/-- R202. -/
def glideChecks (r : List Byte) : List (Nat × Bool) :=
  let m := (recMode r).toNat
  let k := glKind r
  let n := min (glSegs r) 4
  [ (0x40, glKindOk m k),
    (0x41, if k = 1 then inRange 1 4 (glSegs r) else decide (glSegs r = 0)),
    (0x42, allZero r 0x42 0x44),
    (0x44, decide (glDelay r ≤ 3600000) && (decide (glDelay r = 0) || (k != 0 && k != 2 && k != 0x11 && m != 6))),
    (0x48, if modeAo m then inRange 100 24000000 (glResume r) else decide (glResume r = 0)),
    (0x4C, allZero r 0x4C 0x50) ]
  ++ (if k = 1 then (List.range n).flatMap (segChecks r) ++ zeroWords r (0x50 + 12 * n) (12 - 3 * n)
      else if k = 0x13 then
        [ (0x50, inRange 1 60000 (field r 0x50 4)), (0x54, inRange 1 60000 (field r 0x54 4)),
          (0x58, inRange 1 10000 (glPulses r)), (0x5C, allZero r 0x5C 0x80) ]
      else zeroWords r 0x50 12)

/-- R169. -/
def recordChecks (r : List Byte) : List (Nat × Bool) :=
  let m := (recMode r).toNat
  let w := fieldW r 0
  let d := fieldW r 0x0C
  let a := fieldW r 0x20
  let ao := modeAo m
  [ (0x00, modeListed m && decide (w >>> 10 = 0) && (!w.getLsbD 9 || m == 3 || m == 5 || m == 6)
      && (!w.getLsbD 8 || inRange 1 3 m)),
    (0x04, if modeDigIn m then inRange 2 20000 (field r 4 4) else decide (field r 4 4 = 0)),
    (0x08, decide (field r 8 4 = 0) || inRange 2 1000 (field r 8 4)),
    (0x0C, decide (d >>> 5 = 0) && (!d.getLsbD 4 || m == 1 || m == 2 || m == 4)
      && (decide (d &&& 0xE = 0) || (m == 4 && recCountEdge r != 3)) && (!d.getLsbD 0 || modeDigOut m)) ]
  ++ zeroWords r 0x10 4
  ++ [ (0x20, decide (a >>> 3 = 0) && (!a.getLsbD 2 || m == 0x10 || m == 0x11)
        && (decide (recFailDir r = 0) || (ao && recFailDir r != 3))),
       (0x24, if ao then inRange 3200000 3600000 (recFailLow r) else decide (recFailLow r = 0)),
       (0x28, if ao then inRange 21000000 23000000 (recFailHigh r) else decide (recFailHigh r = 0)),
       (0x2C, decide (field r 0x2C 4 = 0) || (ao && inRange 10 60000 (field r 0x2C 4))),
       (0x30, if ao then decide (recStart r ≤ 24000000) else decide (recStart r = 0)),
       (0x34, if modeAnaIn m then decide (field r 0x34 4 ≤ 1000) else decide (field r 0x34 4 = 0)),
       (0x38, allZero r 0x38 0x40) ]
  ++ glideChecks r

/-- Offset of the first field of a record that breaks R169 or R202. -/
def recordFault (r : List Byte) : Option Nat := ((recordChecks r).find? (fun c => !c.2)).map (·.1)

end Sys2Proof.Machine
end

