-- ==== Sys2Proof/Machine/Sha256.lean ====
section
/-! DEFINITION. SHA-256 (FIPS 180-4), which the image digest (Table 2-3), the update package and the safety password use. -/

namespace Sys2Proof.Machine

/-- The greatest `r` below 2^bits with r^k ≤ n, bit by bit from the highest. -/
def rootBits (k n : Nat) : Nat → Nat → Nat
  | 0, r => r
  | i + 1, r => rootBits k n i (if (r + 2 ^ i) ^ k ≤ n then r + 2 ^ i else r)
/-- The first 32 bits of the fraction of the k-th root of `p` (FIPS 180-4 takes its constants from them). -/
def rootFraction (k p : Nat) : Word := BitVec.ofNat 32 (rootBits k (p * 2 ^ (32 * k)) 37 0)
/-- The first 64 primes: those up to 311. -/
def shaPrimes : List Nat :=
  (List.range 312).filter (fun p => decide (2 ≤ p) && [2, 3, 5, 7, 11, 13, 17].all (fun d => p == d || p % d != 0))
/-- Round constants: cube roots of the first 64 primes. -/
def shaK : List Word := shaPrimes.map (rootFraction 3)
/-- Initial hash: square roots of the first 8 primes. -/
def shaInit : List Word := (shaPrimes.take 8).map (rootFraction 2)

/-- The number that bytes spell, most significant first. -/
def ofBe (bs : List Byte) : Nat := bs.foldl (fun n b => 256 * n + b.toNat) 0
def bigEnd (n v : Nat) : List Byte := (leBytes n v).reverse

/-- The exclusive or of a word's rotations. -/
def xorRots (w : Word) (ns : List Nat) : Word := ns.foldl (fun x n => x ^^^ w.rotateRight n) 0
/-- The next word of the message schedule; `ws` holds the words so far, newest first. -/
def shaNext (ws : List Word) : Word :=
  let a := ws.getD 14 0
  let b := ws.getD 1 0
  ws.getD 15 0 + ws.getD 6 0 + (xorRots a [7, 18] ^^^ (a >>> 3)) + (xorRots b [17, 19] ^^^ (b >>> 10))
def shaExtend : Nat → List Word → List Word
  | 0, ws => ws
  | n + 1, ws => shaExtend n (shaNext ws :: ws)

/-- One round on the eight working words, by their position a to h; `kw` is the round constant plus the schedule word. -/
def shaRound (h : List Word) (kw : Word) : List Word :=
  let v (i : Nat) : Word := h.getD i 0
  let choice := (v 4 &&& (v 5 ^^^ v 6)) ^^^ v 6
  let majority := (v 0 &&& (v 1 ||| v 2)) ||| (v 1 &&& v 2)
  let t := v 7 + xorRots (v 4) [6, 11, 25] + choice + kw
  let low := (h.take 7).set 3 (v 3 + t)
  (t + xorRots (v 0) [2, 13, 22] + majority) :: low

/-- The words of a 64-byte block, first word first. -/
def shaWords : Nat → List Byte → List Word
  | 0, _ => []
  | n + 1, bs => BitVec.ofNat 32 (ofBe (bs.take 4)) :: shaWords n (bs.drop 4)
def shaBlock (h : List Word) (blk : List Byte) : List Word :=
  let ws := (shaExtend 48 (shaWords 16 blk).reverse).reverse
  List.zipWith (· + ·) h ((List.zipWith (· + ·) shaK ws).foldl shaRound h)
def shaBlocks : Nat → List Word → List Byte → List Word
  | 0, h, _ => h
  | n + 1, h, bs => shaBlocks n (shaBlock h (bs.take 64)) (bs.drop 64)

def sha256 (bs : List Byte) : List Byte :=
  let z := (119 - bs.length % 64) % 64
  let m := bs ++ [0x80] ++ List.replicate z 0 ++ bigEnd 8 (8 * bs.length)
  (shaBlocks (m.length / 64) shaInit m).flatMap (fun w => bigEnd 4 w.toNat)

end Sys2Proof.Machine
end

