-- ==== Sys2Proof/Machine/Container.lean ====
section
/-! DEFINITION. The image container (Tables 2-1 to 2-3) and stages 2 to 5 of a load: header, digest, signature, section table
and section CRCs, in the order of R403 (R33–R37, R41, R399). -/

namespace Sys2Proof.Machine

/-! ### Status codes (Tables 2-20, 6-13) -/

def lsOk : Byte := 0x00
def lsInProgress : Byte := 0x01
def lsBadHeader : Byte := 0x02
def lsDigest : Byte := 0x03
def lsSigInvalid : Byte := 0x04
def lsSigRequired : Byte := 0x05
def lsSectionCrc : Byte := 0x06
def lsSectionInvalid : Byte := 0x07
def lsUnitAbsent : Byte := 0x08
def lsGroup : Byte := 0x09
def lsCapacity : Byte := 0x0A
def lsBaseMismatch : Byte := 0x0B
def lsDeltaInFull : Byte := 0x0C
def lsFrameLoad : Byte := 0x0D
def lsSelftest : Byte := 0x0E
def lsBusy : Byte := 0x0F
def lsStore : Byte := 0x10
def lsSafetySeal : Byte := 0x11
def lsPartner : Byte := 0x12
def lsEditScope : Byte := 0x13
def lsMapMissing : Byte := 0x14
def lsMapInvalid : Byte := 0x15
def lsConversion : Byte := 0x16
def lsDataOverlap : Byte := 0x17
def lsRecessLong : Byte := 0x18
def lsRecessTimeout : Byte := 0x19
def lsRegionNotReady : Byte := 0x1A

/-- A refusal as CFG_LOAD and CFG_LOAD_DETAIL report it (Tables 2-18, 2-19). -/
structure LoadErr where
  stage  : Byte
  sec    : Byte
  status : Byte
  detail : Nat
  deriving DecidableEq, Repr

/-- The first failing check of a list that stands in the order of R403. -/
def firstErr (cs : List (Bool × LoadErr)) : Option LoadErr := (cs.find? (fun c => !c.1)).map (·.2)

/-! ### Header -/

def hdrFlags (bs : List Byte) : Word := fieldW bs 0x08
def hdrSigned (bs : List Byte) : Bool := (hdrFlags bs).getLsbD 0
def hdrDelta (bs : List Byte) : Bool := (hdrFlags bs).getLsbD 1
def hdrSize (bs : List Byte) : Nat := field bs 0x0C 4
def hdrGen (bs : List Byte) : Word := fieldW bs 0x10
def hdrBase (bs : List Byte) : Word := fieldW bs 0x14
def hdrUnits (bs : List Byte) : Word := (fieldH bs 0x18).setWidth 32
def hdrSections (bs : List Byte) : Nat := field bs 0x1A 2
/-- The unit bits that are evaluated: 8 SAFETY and 9 REDUNDANCY. -/
def unitBits : Word := 0x300
/-- D: where the trailer begins. -/
def imageD (bs : List Byte) : Nat := hdrSize bs - (if hdrSigned bs then 104 else 32)
def imageDigest (bs : List Byte) : List Byte := (bs.drop (imageD bs)).take 32
def maxImage : Nat := 0x02800000

/-- Stage 2. -/
def stageHeader (bs : List Byte) (units gen : Word) : Option LoadErr :=
  let e (status : Byte) (off : Nat) : LoadErr := ⟨2, 0, status, off⟩
  let d := hdrDelta bs
  firstErr
    [ (decide (fieldW bs 0x00 = 0x314F4E58), e lsBadHeader 0x00), (decide (field bs 0x04 2 = 1), e lsBadHeader 0x04),
      (decide (field bs 0x06 2 = 64), e lsBadHeader 0x06), (decide (field bs 0x1C 4 = 0x40), e lsBadHeader 0x1C),
      (decide (crc32c (padTo 60 bs) = fieldW bs 0x3C), e lsBadHeader 0x3C),
      (decide (hdrSize bs = bs.length) && decide (hdrSize bs ≤ maxImage), e lsBadHeader 0x0C),
      (decide (hdrFlags bs >>> 2 = 0), e lsBadHeader 0x08),
      (d || decide (hdrGen bs = 0), e lsBadHeader 0x10), (d || decide (hdrBase bs = 0), e lsBadHeader 0x14),
      (decide (hdrUnits bs &&& unitBits &&& ~~~units = 0), e lsUnitAbsent 0x18),
      (!d || decide (hdrGen bs = hdrBase bs + 1), e lsBaseMismatch 0x10), (!d || decide (hdrBase bs = gen), e lsBaseMismatch 0x14),
      (decide (gen ≠ 0xFFFFFFFF), e lsCapacity 0x10) ]

/-- Stage 3: SHA-256 over bytes 0 to D−1. -/
def stageDigest (bs : List Byte) : Option LoadErr :=
  if sha256 (bs.take (imageD bs)) = imageDigest bs then none else some ⟨3, 0, lsDigest, imageD bs⟩

/-- Stage 4 (R36). The reserved bytes D+33 to D+39 are not checked (DESIGN CHOICE, log 38). -/
def stageSignature (s : State) (bs : List Byte) : Option LoadErr :=
  let d := imageD bs
  if !hdrSigned bs then (if requireSigned s then some ⟨4, 0, lsSigRequired, 0x08⟩ else none)
  else
    let k := field bs (d + 32) 1
    if 3 < k then some ⟨4, 0, lsSigInvalid, d + 32⟩
    else match keySlot s k with
      | none => some ⟨4, 0, lsSigInvalid, d + 32⟩
      | some key =>
        if Config.ed25519Verify key (imageDigest bs) ((bs.drop (d + 40)).take 64) then none
        else some ⟨4, 0, lsSigInvalid, d + 40⟩

/-! ### Section table (Table 2-2, R35) -/

structure ImgSec where
  type : Nat
  off  : Nat
  len  : Nat
  deriving DecidableEq, Repr

def up16 (n : Nat) : Nat := (n + 15) / 16 * 16
def secEntry (bs : List Byte) (i : Nat) : ImgSec :=
  let o := 0x40 + 16 * i
  ⟨field bs o 1, field bs (o + 4) 4, field bs (o + 8) 4⟩
/-- The sections as the table lists them. -/
def sections (bs : List Byte) : List ImgSec := (List.range (hdrSections bs)).map (secEntry bs)
def findSec (bs : List Byte) (t : Nat) : Option ImgSec := (sections bs).find? (fun x => x.type == t)
def hasSec (bs : List Byte) (t : Nat) : Bool := (findSec bs t).isSome
def secBody (bs : List Byte) (x : ImgSec) : List Byte := (bs.drop x.off).take x.len
/-- The bytes of the section of type `t`; none are there when the image has no such section. -/
def secBytes (bs : List Byte) (t : Nat) : List Byte := match findSec bs t with | some x => secBody bs x | none => []
def secOff (bs : List Byte) (t : Nat) : Nat := match findSec bs t with | some x => x.off | none => 0
def requiredTypes : List Nat := [0x01, 0x02, 0x03, 0x08, 0x0A]

/-- Entry `i` of the table: TYPE rising, reserved fields 0, the section at the first multiple of 16 after what stands before
it, the bytes between them 0, LENGTH as R35 gives. -/
def secEntryOk (bs : List Byte) (i : Nat) : Bool :=
  let o := 0x40 + 16 * i
  let x := secEntry bs i
  let before := if i = 0 then 0x40 + 16 * hdrSections bs else (secEntry bs (i - 1)).off + (secEntry bs (i - 1)).len
  decide (1 ≤ x.type) && decide (x.type ≤ 13) && (i == 0 || decide ((secEntry bs (i - 1)).type < x.type))
    && decide (field bs (o + 1) 3 = 0) && decide (x.off = up16 before)
    && ((bs.drop before).take (x.off - before)).all (· == 0)
    && (decide (1 ≤ x.len) || ((x.type == 3 || x.type == 8) && fieldW bs (o + 0x0C) == 0)) && decide (x.off + x.len ≤ imageD bs)
    && (decide (i + 1 < hdrSections bs) || (decide (up16 (x.off + x.len) = imageD bs)
      && ((bs.drop (x.off + x.len)).take (imageD bs - (x.off + x.len))).all (· == 0)))

/-- Stage 5: the table, the Required sections, section 0x0D in a full image, then the CRCs. SECTION_CRC has the section's start as
its detail, where the spec does not say which offset it is (DESIGN CHOICE, log 42). That a SECTION_COUNT outside 1–13 is
refused here, first and with detail 0x1A, is the model's (DESIGN CHOICE, log 38). -/
def stageSections (bs : List Byte) : Option LoadErr :=
  let n := hdrSections bs
  let d := hdrDelta bs
  let idx := List.range n
  firstErr (
    [(decide (1 ≤ n) && decide (n ≤ 13), ⟨5, 0, lsSectionInvalid, 0x1A⟩)]
    ++ idx.map (fun i => (secEntryOk bs i, ⟨5, 0, lsSectionInvalid, 0x40 + 16 * i⟩))
    ++ requiredTypes.map (fun t => (d || hasSec bs t, ⟨5, 0, lsSectionInvalid, 0x40⟩))
    ++ idx.map (fun i => (d || (secEntry bs i).type != 0x0D, ⟨5, 0x0D, lsDeltaInFull, 0x40 + 16 * i⟩))
    ++ idx.map (fun i =>
        let x := secEntry bs i
        (decide (crc32c (secBody bs x) = fieldW bs (0x4C + 16 * i)), ⟨5, BitVec.ofNat 8 x.type, lsSectionCrc, x.off⟩)))

/-- Stages 2 to 5. -/
def checkContainer (s : State) (bs : List Byte) : Option LoadErr :=
  match stageHeader bs s.variant.units s.gen with
  | some e => some e
  | none => match stageDigest bs with
    | some e => some e
    | none => match stageSignature s bs with
      | some e => some e
      | none => stageSections bs

/-- The stages that `checkContainer` has passed when the image is refused there or goes on to stage 6. -/
def digestWord (bs : List Byte) : Word := fieldW (imageDigest bs) 0

end Sys2Proof.Machine
end

