-- ==== Sys2Proof/Machine/Setup.lean ====
section
/-! DEFINITION. Setting up the running image: region start values, planes, memories, timers, words, tasks (R38, R39, R43,
R66, R375, R404). Dawn, a full image load and a region restart use these. -/

namespace Sys2Proof.Machine

/-! ### Regions -/

/-- Start values of the state bits (R66): INIT for state modes 1–3; an edge memory starts at 0. -/
def initBits (p : Plane) : Tab Bool :=
  p.cells.foldl (fun t e =>
    tset false t e.1 (cellUsed e.2 && decide (1 ≤ cellMode e.2) && decide (cellMode e.2 ≤ 3) && cellInit e.2)) []
/-- The edge memories that the first wave primes: INIT_CURRENT (R66). -/
def primeList (p : Plane) : List Nat :=
  (p.cells.filter (fun e => cellUsed e.2 && decide (cellMode e.2 = 4) && !cellEdgeZero e.2)).map (·.1)

/-- Region start: bits and parity from INIT. -/
def regionStart (r : Nat) (s : State) : State :=
  s.modRegion r (fun x =>
    { x with bits := initBits x.active, parity := initBits x.active, prime := primeList x.active
             portIw := [], portBb := [], portTq := [], wave := false })

def imagePlane (img : ImageCfg) (r : Nat) : Plane := tget {} img.planes r

/-- Both planes of region `r` loaded from the running image and read back (R39, Table 2-24). -/
def loadPlanes (r : Nat) (s : State) : State :=
  s.modRegion r (fun x => { x with
    p0 := imagePlane s.run r, p1 := imagePlane s.run r, flips := [], gen := s.gen, shadowReady := false, fault := 0 })

/-- RG_LOAD_RETRY counts the retries that passed (R43). -/
def addRetries (r n : Nat) (s : State) : State := s.modRegion r (fun x => { x with loadRetry := satAdd x.loadRetry n })

/-- RG_STATUS.STATE of a region that is not faulted, before its task starts. -/
def regionIdle (r : Nat) (s : State) : State :=
  s.modRegion r (fun x => { x with st := if (regionOwner s.run r).isSome then .idle else .unused })

/-- What the self-test and the load of every region find (R21, R43): faults first, else planes and start values. -/
def setupRegion (t : RegionTest) (r : Nat) (s : State) : State :=
  let s := s.modRegion r (fun x => { x with st := .loading, shadowReady := false, fault := 0, restart := .none })
  if t.selftestFail.getLsbD r then regionFault r (rgFaultBlock 5 false 0 0) s
  else
    let s := regionStart r (loadPlanes r s)
    let s := addRetries r ((t.retries.filter (fun e => e.1.val == r)).foldl (fun n e => n + e.2) 0) s
    match t.frameFail.find? (fun e => e.1.val == r) with
    | some e => regionFault r (rgFaultBlock 2 e.2.1 e.2.2.val 0) s
    | none => regionIdle r s
def setupRegions (t : RegionTest) (s : State) : State := regionIds.foldl (fun s r => setupRegion t r s) s

/-! ### Memories -/

def chunkBytes (m : Memory) (c : Chunk) : Memory := writeBytes m c.addr c.bytes
/-- Memory not covered by any chunk is loaded as 0 (Table 2-8). -/
def chunksOf (cs : List Chunk) (target : Nat) : Memory := (cs.filter (fun c => c.target.toNat == target)).foldl chunkBytes []

/-- FB code and data of an engine; SA and SB take the safety program (R39, Table 2-12). -/
def setupEngine (e : Nat) (s : State) : State :=
  let code := if e = 24 then writeBytes [] 0 ((s.run.safety.getD {}).code) else chunksOf s.run.code e
  let data := if e = 24 then writeBytes [] 0 ((s.run.safety.getD {}).data) else chunksOf s.run.data e
  s.modEngine e (fun x => { iram := code, local_ := data, corrNew := x.corrNew, corrAt := x.corrAt })
def setupMemories (s : State) : State :=
  let s := (List.range 25).foldl (fun s e => setupEngine e s) s
  { s with shared := chunksOf s.run.data 0xFF }

/-! ### Tables -/

/-- A timer that a fabric sink drives: a routing word of KIND 0xA or 0xB names it (R65, R104). -/
def fabricTimer (img : ImageCfg) (n : Nat) : Bool :=
  img.planes.any (fun e => e.2.rws.any (fun w => (rwKind w.2 == 0xA || rwKind w.2 == 0xB) && rwTimer w.2 == n))

def freshTimer (img : ImageCfg) (c : TimerCfg) : TimerSt :=
  timerSettle { used := true, kind := BitVec.ofNat 2 c.kind.toNat, owner := c.owner, retain := c.retain
                fabric := fabricTimer img c.timer, preset := c.preset.setWidth 48 }
def setupTimers (s : State) : State :=
  s.run.timers.foldl (fun s c => s.setTimer c.timer (freshTimer s.run c)) { s with timers := [] }

/-- The live images at stage 11, `old` being the routing that ruled before (R404). -/
def setupWord (old : ImageCfg) (s : State) (r : RouteCfg) : State :=
  let g : BitVec 12 := r.group.setWidth 12
  if r.out then
    if (routeOf old true r.num).isSome ∧ !routeRetained r then
      s.setQw r.num { (s.qwGet r.num) with tag := tagSetGroup (s.qwGet r.num).tag g }
    else s.setQw r.num (outInit r)
  else if (routeOf old false r.num).isSome then
    s.setIw r.num { (s.iwGet r.num) with tag := tagSetGroup (s.iwGet r.num).tag g }
  else s.setIw r.num (inInit r)
def setupWords (old : ImageCfg) (s : State) : State :=
  let gone := (s.run.routes.foldl (setupWord old) s)
  { gone with img := { gone.img with
      iw := tdrop (fun n => !routedIn s.run n) gone.img.iw
      qw := tdrop (fun n => (routeOf s.run true n).isNone) gone.img.qw } }

/-- What a task keeps that the image does not start: its counters and TASK_FAULT until it next starts (R109, R114), and the
Blackboard, as far as the new image has it (R137). -/
def keepUnstarted (words : Nat) (old x : TaskSt) : TaskSt :=
  { x with
    fault := old.fault, actCnt := old.actCnt, skipped := old.skipped, consec := old.consec, merged := old.merged
    foreign := old.foreign, bb := tdrop (fun n => words ≤ n) old.bb }
/-- A task of the new image starts (R114), but for the owners of a faulted region, which stay stopped with cause 3 (R21,
R43), and safety tasks that the subsystem does not run (R248). The flags of TASK_FAULT stay (R110); a task number that the image does
not use has no state. -/
def setupTask (t : Nat) (s : State) : State :=
  if (s.tcfg t).kind = 0 then s.setTask t {}
  else
    let old := s.task t
    let s := startTask t false s
    let s := s.modTask t (fun x => { x with snap := [], mirror := [], simIn := false, waveStop := false, byCmd := false })
    let s := if regionFaulted s t || ((s.tcfg t).kind == 4 && s.safe.st != .run) then
        s.modTask t (keepUnstarted (s.tcfg t).bbWords.toNat old) else s
    if regionFaulted s t then
      let s := s.modTask t (fun x => { x with st := .fault, cause := 3 })
      raiseTaskStop t 3 (setTaskRegions t .stopped s)
    else s
def setupTasks (s : State) : State := taskIds.foldl (fun s t => setupTask t s) s

/-- The tasks read STOPPED with cause 0 until they start (R116). -/
def holdTasks (s : State) : State :=
  taskIds.foldl (fun s t =>
    if (s.task t).st = .idle then setTaskRegions t .stopped (s.modTask t (fun x => { x with st := .stopped, cause := 0 })) else s) s
/-- Tasks held so start. -/
def releaseTasks (s : State) : State :=
  taskIds.foldl (fun s t => if (s.task t).st = .stopped ∧ (s.task t).cause = 0 ∧ !regionFaulted s t then startTask t false s else s) s

end Sys2Proof.Machine
end

