-- ==== Sys2Proof/Machine/Content.lean ====
section
/-! DEFINITION. What an image holds: its sections read as records, frames and chunks (Tables 2-4 to 2-15, 4-14, 9-4, 9-5).
Reading is total and judges nothing; ImageCheck and DeltaCheck judge. -/

namespace Sys2Proof.Machine

/-- Whole records of `n` bytes, in order. -/
def records (n : Nat) (b : List Byte) : List (List Byte) := (List.range (b.length / n)).map (fun i => (b.drop (n * i)).take n)

def readTask (r : List Byte) : TaskCfg :=
  ⟨fieldB r 0, fieldB r 1, fieldH r 2, fieldW r 4, fieldW r 8, fieldW r 0x0C, fieldH r 0x10, fieldH r 0x12, fieldH r 0x14,
   fieldH r 0x16, fieldH r 0x18, fieldW r 0x1C⟩
def lessonPreds (r : List Byte) : List Nat := (List.range (min (field r 3 1) 4)).map (fun j => field r (8 + 2 * j) 2)
def readLesson (r : List Byte) : LessonCfg := ⟨fieldB r 0, fieldB r 1, fieldB r 2, fieldW r 4, lessonPreds r⟩
def readDesc (r : List Byte) : DescCfg :=
  ⟨fieldW r 0, fieldW r 4, fieldH r 8, fieldB r 0x0A, fieldB r 0x0B, fieldH r 0x0C, fieldB r 0x0E⟩
def readRoute (r : List Byte) : RouteCfg :=
  ⟨(fieldH r 0).getLsbD 15, field r 0 2 % 32768, fieldB r 2, fieldB r 3, fieldH r 4, fieldH r 6⟩
def readTimer (r : List Byte) : TimerCfg :=
  ⟨field r 0 2, fieldB r 2, (fieldB r 3).getLsbD 0, BitVec.ofNat 64 (field r 4 8), fieldB r 0x0C⟩
def readSafety (b : List Byte) : SafetyProg :=
  let p := field b 4 4
  let c := field b 8 4
  let a := field b 0x0C 4
  ⟨fieldW b 0, (b.drop 16).take p, (b.drop (16 + p)).take c, (b.drop (16 + p + c)).take a⟩

/-! ### Chunks (Table 2-8) -/

/-- A chunk with its offset in the section; `cut` when its data run past the section's end. -/
structure ChunkAt where
  off   : Nat
  chunk : Chunk
  len   : Nat
  cut   : Bool

def readChunks : Nat → Nat → List Byte → List ChunkAt
  | 0, _, _ => []
  | n + 1, o, b =>
    if b.length ≤ o then []
    else
      let l := field b (o + 8) 4
      ⟨o, ⟨fieldB b o, field b (o + 4) 4, (b.drop (o + 12)).take l⟩, l, decide (b.length < o + 12 + l)⟩ :: readChunks n (o + 12 + l) b
def chunksIn (b : List Byte) : List ChunkAt := readChunks b.length 0 b

/-! ### Frames (Table 2-9) -/

structure Frame where
  off     : Nat
  routing : Bool
  region  : Nat
  block   : Nat
  payload : List Byte
  crcOk   : Bool

/-- The place of a frame in the order of section 0x04, from 1. -/
def Frame.key (f : Frame) : Nat := (f.region * 64 + f.block) * 2 + f.routing.toNat + 1

/-- The frames up to the first that is not laid out as Table 2-9 gives, and the offset of what fails there: the field that
lies outside its range, else the frame (R39, R403). -/
def readFrames : Nat → Nat → Nat → List Byte → List Frame × Option Nat
  | 0, _, _, _ => ([], none)
  | n + 1, o, last, b =>
    if b.length ≤ o then ([], none)
    else
      let ty := field b o 1
      let l := field b (o + 4) 2
      let f : Frame := ⟨o, ty == 2, field b (o + 1) 1, field b (o + 2) 1, (b.drop (o + 8)).take l,
        decide (crc32c ((b.drop o).take (8 + l)) = fieldW b (o + 8 + l))⟩
      let checks : List (Nat × Bool) :=
        [ (0, ty == 1 || ty == 2), (1, decide (f.region < 16)), (2, decide (f.block < 64)),
          (0, decide (field b (o + 3) 1 = 0)), (4, if ty = 1 then l == 2048 else decide (l ≤ 2048) && decide (l % 8 = 0)),
          (0, decide (field b (o + 6) 2 = 0) && decide (o + 12 + l ≤ b.length) && decide (last < f.key)) ]
      match checks.find? (fun c => !c.2) with
      | some c => ([], some (o + c.1))
      | none =>
        let r := readFrames n (o + 12 + l) f.key b
        (f :: r.1, r.2)
def framesIn (b : List Byte) : List Frame × Option Nat := readFrames b.length 0 0 b

/-- The cell words of a cell frame by address in the region; the routing words of a routing frame by block<<8 | slot. -/
def frameCells (f : Frame) : List (Nat × BitVec 128) :=
  (enumFrom (f.block * 128) (records 16 f.payload)).map (fun e => (e.1, BitVec.ofNat 128 (ofLe e.2)))
def frameWords (f : Frame) : List (Nat × BitVec 64) :=
  (enumFrom (f.block * 256) (records 8 f.payload)).map (fun e => (e.1, BitVec.ofNat 64 (ofLe e.2)))

/-- A frame replaces its part of its block: in a delta the other part stays (log 19). -/
def putFrame (p : Plane) (f : Frame) : Plane :=
  if f.routing then
    { p with rws := (frameWords f).foldl (fun t e => tset 0 t e.1 e.2) (tdrop (fun k => k / 256 == f.block) p.rws) }
  else { p with cells := (frameCells f).foldl (fun t e => tset 0 t e.1 e.2) (tdrop (fun k => k / 128 == f.block) p.cells) }
def putFrames (ps : Tab Plane) (fs : List Frame) : Tab Plane := fs.foldl (fun t f => tmod {} t f.region (fun p => putFrame p f)) ps

/-! ### The content of the generation that an image creates -/

def stationCount (b : List Byte) : Nat := field b 4 2

/-- A section present replaces the one of `base`; frames and chunks add to it. For a full image `base` is empty. -/
def readContent (base : ImageCfg) (bs : List Byte) : ImageCfg :=
  let sec (t : Nat) : Option (List Byte) := (findSec bs t).map (secBody bs)
  let recs {α : Type} (t n : Nat) (f : List Byte → α) (old : List α) : List α :=
    match sec t with | some b => (records n b).map f | none => old
  let p := sec 1
  { loaded := true
    pair := match p with | some b => (fieldB b 0).getLsbD 0 | none => base.pair
    compare := match p with | some b => fieldW b 4 | none => base.compare
    chanWd := match p with | some b => fieldH b 8 | none => base.chanWd
    tasks := recs 2 32 readTask base.tasks
    lessons := recs 3 16 readLesson base.lessons
    planes := putFrames base.planes (framesIn (secBytes bs 4)).1
    code := base.code ++ (chunksIn (secBytes bs 5)).map (·.chunk)
    data := base.data ++ (chunksIn (secBytes bs 6)).map (·.chunk)
    descs := recs 7 16 readDesc base.descs
    routes := recs 8 8 readRoute base.routes
    timers := recs 9 16 readTimer base.timers
    channels := recs 10 128 id base.channels
    ring := match sec 11 with | some b => some (padTo 32 b) | none => base.ring
    stations := match sec 11 with | some b => (records 64 (b.drop 32)).take (stationCount b) | none => base.stations
    safety := match sec 12 with | some b => some (readSafety b) | none => base.safety
    digest := imageDigest bs }

end Sys2Proof.Machine
end

