-- ==== Sys2Proof/Machine/Die.lean ====
section
/-! DEFINITION. The channel die (chapters 07, 08): outbound fields, Glide profiles, resume, input edges, diagnostics,
conversions. Functions on DieSt are the die's own; an `exec` definition applies one to channel `c`. -/

namespace Sys2Proof.Machine

/-! ### Condition bits (CH_DIAG_NOW) -/

def dbMismatch : Nat := 1
def dbOpenWire : Nat := 2
def dbShort : Nat := 3
def dbOverload : Nat := 4
def dbOvertemp : Nat := 5
def dbLplus : Nat := 6
def dbWd : Nat := 7

def bit12 (n : Nat) : BitVec 12 := BitVec.ofNat 12 (2 ^ n)
def DieSt.set (d : DieSt) (b : Nat) : DieSt := { d with live := d.live ||| bit12 b }
def DieSt.clr (d : DieSt) (b : Nat) : DieSt := { d with live := d.live &&& ~~~bit12 b }
def DieSt.has (d : DieSt) (b : Nat) : Bool := d.live.getLsbD b
def DieSt.m (d : DieSt) : Nat := d.mode.toNat

/-- The controller runs: L+ is there and its clock too (R29, R181). -/
def DieSt.alive (d : DieSt) : Bool := d.powered && !d.clkFail
/-- The output switches are closed: commanded on, and neither thermal shutdown nor a test lockout holds them open. -/
def DieSt.closed (d : DieSt) : Bool := d.applied && !d.tripped && !d.lockout
/-- What an open switch and a record without WIRE_CHECK end: the current limit, the off-state test, the line-fault flags
(R177–R179). -/
def DieSt.settle (d : DieSt) : DieSt :=
  let wire := recWireCheck d.record
  let d := { d with limiting := d.limiting && d.closed, testing := d.testing && !d.applied && wire }
  if !wire && (modeDigOut d.m || d.m == 3) then { d with live := d.live &&& ~~~(bit12 dbOpenWire ||| bit12 dbShort) } else d

def setDie (c : Nat) (d : DieSt) (s : State) : State := s.modChan c (fun x => { x with die := d.settle })

/-- A condition of channel `c` became set: CH_DIAG and CH_DIAG_NOW, the CHANNEL interrupt, at most one Diary record per
condition in 10 s with the times it was set (R183, R188, R201). OUTPUT_FAULT has a record of its own. -/
def condReport (c b : Nat) (s : State) : State :=
  if !s.up then s
  else
    let x := s.chan c
    let n := tget 0 x.times b + 1
    let last := tget 0 x.lastRec b
    let due := decide (last = 0) || decide (last + 9999 ≤ s.opMs)
    let s := s.modChan c (fun x => { x with
      diag := x.diag ||| bit12 b, now := x.now ||| bit12 b
      times := tset 0 x.times b (if due then 0 else n), lastRec := if due then tset 0 x.lastRec b (s.opMs + 1) else x.lastRec })
    let s := setIrq 5 s
    if !due then s
    else if b = 11 ∧ modeAo (s.chan c).die.m then
      diaryRaise 0x6002 (BitVec.ofNat 16 c) (leBytes 4 ((s.chan c).die.attained / 1000).toNat) s
    else diaryRaise 0x6001 (BitVec.ofNat 16 c) ([BitVec.ofNat 8 b, 0] ++ leBytes 2 n) s

/-- Replace the die of channel `c` and report every condition that has become set. -/
def dieUpdate (c : Nat) (d : DieSt) (s : State) : State :=
  let old := (s.chan c).die
  (List.range 12).foldl (fun s b => if d.has b && !old.has b then condReport c b s else s) (setDie c d s)

/-! ### Glide profiles (R203–R207) -/

/-- A segment's TARGET as a setpoint in 1/100 nA. -/
def targetOf (r : List Byte) (i : Nat) : Int :=
  let t := segTarget r i
  (if t = 0xFFFFFFFF then recFailLow r else if t = 0xFFFFFFFE then recFailHigh r else t) * 100

/-- STATE STOPPED at the end state (Table 2-25). -/
def dieStopped (d : DieSt) : DieSt := { d with st := .stopped, stopping := false }
/-- PHASE END: the end state is held; a STOP that waits is answered (R203, R204). -/
def glideEnd (d : DieSt) : DieSt :=
  let d := { d with phase := .end_, seg := 0 }
  if d.stopping then dieStopped d else d

/-- Enter segment `i` of A_RAMP, skipping phases of length 0; `n` bounds the segments left. -/
def glideSeg : Nat → Nat → DieSt → DieSt
  | 0, _, d => glideEnd d
  | n + 1, i, d =>
    if glSegs d.profile ≤ i then glideEnd d
    else if d.setpoint ≠ targetOf d.profile i then { d with phase := .ramp, seg := i }
    else if segDwell d.profile i ≠ 0 then { d with phase := .dwell, seg := i }
    else glideSeg n (i + 1) d

/-- The profile's body after DELAY_MS (Table 8-11). -/
def glideBody (d : DieSt) : DieSt :=
  match glKind d.profile with
  | 1 => glideSeg 4 0 d
  | 0x10 => glideEnd { d with applied := false }
  | 0x12 => glideEnd { d with applied := true }
  | 0x13 => { d with applied := true, phase := .pulse, pulses := glPulses d.profile }
  | _ => glideEnd d

/-- A profile is running when its phase is any but IDLE and RESUME. -/
def DieSt.gliding (d : DieSt) : Bool := d.phase != .idle && d.phase != .resume

/-- GLIDE_START (R203): a running profile is left as it is; else it starts from the present value. -/
def glideStart (trig : BitVec 4) (d : DieSt) : DieSt :=
  if d.gliding then d
  else
    let d := { d with
      st := .gliding, trigger := trig, glideCnt := satInc d.glideCnt, profile := d.record, seg := 0
      setpoint := if modeAo d.m && d.has 10 then d.value * 100 else d.setpoint }
    if glDelay d.profile ≠ 0 then { d with phase := .delay } else glideBody d

/-- GLIDE_PHASE_END (R204, R205): the delay, dwell or pulse time expires. -/
def glidePhaseEnd (d : DieSt) : DieSt :=
  match d.phase with
  | .delay => glideBody d
  | .dwell => glideSeg 4 (d.seg + 1) d
  | .pulse =>
    if d.applied then { d with applied := false }
    else if d.pulses ≤ 1 then glideEnd d
    else { d with applied := true, pulses := d.pulses - 1 }
  | _ => d

/-! ### Commands (R176, R191, R198, R207, R208, R211) -/

def clampAo (v : Int) : Int := if v < 0 then 0 else if 24000000 < v then 24000000 else v

/-- Ramp toward the command by RESUME, or follow it (R208). -/
def aoResume (d : DieSt) : DieSt :=
  if d.setpoint = d.command * 100 then { d with phase := .idle } else { d with phase := .resume }

/-- A fresh command of an AO_I channel. While the failure behaviour is in force only a command at or below CH_ATTAINED −
0.2 mA ends it (R198); a higher one leaves the ramp to the failure level in force, and with KEEP the setpoint goes on
following the command, after a profile or a hold through RESUME (R196, R208). -/
def aoCommand (v : Int) (d : DieSt) : DieSt :=
  let c := clampAo v
  let held := d.st != .running
  let d := { d with command := c, clamped := decide (c ≠ v), st := .running, seg := 0, stopping := false }
  if d.failing ∧ c + 200000 ≤ d.attained then
    aoResume ({ d with failing := false, setpoint := d.value * 100 }.clr 11 |>.clr 9)
  else if d.failing ∧ recFailDir d.record ≠ 2 then { d with phase := .idle }
  else if held || d.phase == .resume then aoResume d
  else { d with setpoint := c * 100, phase := .idle }

/-- A fresh command of a DO or SAFE_PM channel: at once; OVERTEMP under LATCH = 1 clears at the next on command after an off
command (R177); the off-state test ends with an on command (R178). -/
def doCommand (on : Bool) (d : DieSt) : DieSt :=
  let d := { d with st := .running, phase := .idle, seg := 0, stopping := false, applied := on }
  if !d.tripped then d
  else if !on then { d with offSeen := true }
  else if d.cooled && d.offSeen then { d with tripped := false, cooled := false, offSeen := false }.clr dbOvertemp
  else d

/-- A DATA field at a counter or other input (R174, R175): RESET on its change from 0 to 1, GATE as last received. -/
def inputCommand (keep : Bool) (data : Word) (d : DieSt) : DieSt :=
  let d := { d with st := .running }
  if d.m ≠ 4 ∨ keep then d
  else { d with count := if data.getLsbD 0 && !d.rstBit then 0 else d.count, rstBit := data.getLsbD 0, gate := data.getLsbD 1 }

/-- A valid DATA field (R176): in OFF, STARTING and STOPPED nothing is applied. -/
def dieData (data tag : Word) (d : DieSt) : DieSt :=
  let glide := tag.getLsbD 5
  let hold := tag.getLsbD 4
  let bad := decide (tag &&& 3 = 3)
  let d := { d with forced := tag.getLsbD 2 }.clr dbWd
  if d.st = .off ∨ d.st = .starting ∨ d.st = .stopped then d
  else if !modeOut d.m then inputCommand (glide || hold || bad) data d
  else if glide || bad then glideStart (if glide then 1 else 2) d
  else if hold then { d with st := .holding, phase := .idle, seg := 0, stopping := false }
  else if modeAo d.m then aoCommand data.toInt d
  else doCommand (data.getLsbD 0) d

/-- A valid STOP field (R185, R203, Table 2-25). -/
def dieStop (d : DieSt) : DieSt :=
  if d.st = .stopped ∨ d.st = .starting then d
  else if d.st = .off ∨ !modeOut d.m then dieStopped d
  else if d.phase = .end_ then dieStopped d
  else glideStart 4 { d with stopping := true }

/-! ### Outbound fields -/

/-- The watchdog time has run on the die's clock: possibly from 0.98 of it on, always from 1.02 of it + 5 µs on (R187). -/
def wdMay (s : State) (d : DieSt) : Bool := decide (d.wdMs ≠ 0) && !d.wdOut && decide (980000 * d.wdMs ≤ s.clockNs - d.wdAt)
def wdLate (s : State) (d : DieSt) : Bool := wdMay s d && decide (1020000 * d.wdMs + 5000 ≤ s.clockNs - d.wdAt)
/-- The watchdog of channel `c` expires: none in OFF (R187). -/
def wdExpire (c : Nat) (s : State) : State :=
  let d := (s.chan c).die
  if d.mode = 0 then s
  else
    let d := { d with wdCount := satInc d.wdCount, wdOut := true }.set dbWd
    let d := if modeOut d.m ∧ (d.st = .ready ∨ d.st = .running ∨ d.st = .holding ∨ d.st = .gliding) then glideStart 3 d else d
    dieUpdate c d s

/-- The channel controller receives the field of its kind that the hub sent last: one with a wrong CRC or a CHUNK out of range
is counted and counts as not received (R185). TIME is loaded into the microsecond counter (R173), and the watchdog starts
anew, after an expiry that the field comes too late to prevent (R187). -/
def dieReceive (c : Nat) (kind : OutKind) (ok : Bool) (k : OutField → DieSt → State → State) (s : State) : State :=
  let x := s.chan c
  if !x.die.alive ∨ x.out.kind ≠ kind then s
  else if !ok || decide (16 < x.out.chunk) then setDie c { x.die with crcErrs := satInc x.die.crcErrs } s
  else
    let s := if wdLate s x.die then wdExpire c s else s
    let d := (s.chan c).die
    k x.out { d with
      echo := x.out.seq, time := x.out.time, timeAt := x.out.at_, wdAt := s.clockNs, wdOut := false
      wdMs := if field d.record 8 4 = 0 then s.run.chanWd.toNat else field d.record 8 4 } s

/-- DATA_FIELD (R176). -/
def execDataField (c : ChanId) (ok : Bool) (s : State) : Out :=
  .next (dieReceive c .data ok (fun f d s => dieUpdate c (dieData f.data f.tag d) s) s)

/-- The hub means to send a record of another mode: the terminals go to high impedance at STOPPED (R189). -/
def modeChanges (x : ChanSt) : Bool := x.newRec != [] && recMode x.newRec != x.die.mode
def pauseAtStop (c : Nat) (s : State) : State :=
  s.modChan c (fun x => if x.die.st = .stopped ∧ modeChanges x ∧ !x.die.highZ then
    { x with die := { x.die with highZ := true, pauseDone := false } } else x)

/-- STOP_FIELD. -/
def execStopField (c : ChanId) (ok : Bool) (s : State) : Out :=
  .next (dieReceive c .stop ok (fun _ d s => pauseAtStop c (dieUpdate c (dieStop d) s)) s)

/-- The channel's own judgement of a complete record (Table 7-13, R188): CRC, unit, fields, pair. -/
def recordStatus (s : State) (c : Nat) (r : List Byte) (crc : Word) : BitVec 4 :=
  if crc32c r ≠ crc then 2
  else if modeSafety (recMode r).toNat && !s.variant.safety then 1
  else if (recordFault r).isSome then 3
  else if recMode r == 7 && recMode (s.run.channels.getD (if c % 2 = 0 then c + 1 else c - 1) []) != 7 then 4
  else 0

/-- The record is complete: it is stored, or rejected with its mode status and a Diary record (R53). -/
def storeRecord (c : Nat) (d : DieSt) (crc : Word) (s : State) : State :=
  let r := d.collect
  let status := recordStatus s c r crc
  let d := { d with collect := [], chunk := 0, modeStat := status }
  if status ≠ 0 then
    let s := setDie c d s
    if s.up then diaryRaise 0x6003 (BitVec.ofNat 16 c) ([status.setWidth 8, recMode r, 0, 0] ++ wordBytes (crc32c r)) s else s
  else setDie c { d with record := r, crc := crc, stored := true, st := .starting } s

/-- CONFIG_FIELD (R185): chunks in ascending order from 0, in STOPPED only; one out of order restarts the collection. -/
def execConfigField (c : ChanId) (ok : Bool) (s : State) : Out :=
  .next (dieReceive c .config ok (fun f d s =>
    if d.st ≠ .stopped then setDie c d s
    else if f.chunk = 0 then
      setDie c { d with collect := wordBytes f.data ++ wordBytes f.tag, chunk := 1, modeStat := 0 } s
    else if f.chunk ≠ d.chunk then setDie c { d with collect := [], chunk := 0 } s
    else if f.chunk < 16 then
      setDie c { d with collect := d.collect ++ wordBytes f.data ++ wordBytes f.tag, chunk := d.chunk + 1 } s
    else storeRecord c d f.data s) s)

/-- HIGH_Z_PAUSE_END (R189). -/
def execHighZPauseEnd (c : ChanId) (s : State) : Out :=
  .next (let d := (s.chan c).die; if d.alive && d.highZ then setDie c { d with pauseDone := true } s else s)

/-- A front end as configured for its record: a new mode starts from off or CH_START; without a change of mode the output
stays at the end state (R189, R211, Table 2-25). The counts of the channel start are 0 (R188). What the manual does not say
of a start (log 39): of the live conditions only LPLUS_LOW and WD_EXPIRED go on; a change of mode clears the count,
EDGE_COUNT, LAST_EDGE_US, RESET and GATE, a start without one keeps them; CH_ATTAINED is kept at every start. -/
def frontEnd (d : DieSt) : DieSt :=
  let m := recMode d.record
  let changed := m != d.mode
  let d := { d with
    mode := m, stored := false, highZ := false, pauseDone := false, stopping := false, phase := .idle, seg := 0
    ovlCount := 0, wdCount := 0, glideCnt := 0, complCnt := 0, failing := false, tripped := false, cooled := false
    offSeen := false, testing := false, lockout := false, lockM := false, limiting := false, onRun := [], offRun := []
    faultRun := 0, settled := false, loopV := 0, power := 0, supply := if modeAo m.toNat then (if d.supply < 300 then 300 else d.supply) else if m = 0x11 then 2600 else 0
    live := if m = 0 then 0 else d.live &&& (bit12 dbLplus ||| bit12 dbWd), st := if m = 0 then .off else .ready }
  if changed then
    { d with accepted := false, edgeCount := 0, lastEdge := 0, count := 0, rstBit := false, gate := false
             applied := false, setpoint := recStart d.record * 100, command := recStart d.record
             value := 0, clamped := false }
  else d

/-- CHANNEL_READY (R189): not before the record is stored and the pause of a mode change has ended. -/
def execChannelReady (c : ChanId) (selftestOk : Bool) (s : State) : Out :=
  .next (
    let d := (s.chan c).die
    if !d.alive || !d.stored || (d.highZ && !d.pauseDone) then s
    else if selftestOk then setDie c (frontEnd d) s
    else
      let s := setDie c { d with stored := false, st := .stopped, modeStat := 5 } s
      if s.up then diaryRaise 0x6003 (BitVec.ofNat 16 c) ([5, recMode d.record, 0, 0] ++ wordBytes d.crc) s else s)

/-- CHANNEL_WATCHDOG (R187): once after a valid field, when its time may have run; one that a field cancels does not come. -/
def execChannelWatchdog (c : ChanId) (s : State) : Out :=
  .next (let d := (s.chan c).die; if d.alive && wdMay s d then wdExpire c s else s)

/-- GLIDE_PHASE_END. -/
def execGlidePhaseEnd (c : ChanId) (s : State) : Out :=
  .next (let d := (s.chan c).die
    if d.alive then pauseAtStop c (setDie c (glidePhaseEnd d) s) else s)

/-- One step of at most `slope` toward `target`. -/
def stepTo (target slope v : Int) : Int :=
  if v < target then (if target ≤ v + slope then target else v + slope)
  else if v - slope ≤ target then target else v - slope

/-- SETPOINT_UPDATE (R196, R204, R207, R208): every 10 µs, steps of SLOPE / 100. A hold keeps its value, also while the
failure behaviour is in force. -/
def setpointUpdate (d : DieSt) : DieSt :=
  if !modeAo d.m then d
  else match d.phase with
  | .ramp =>
    let v := stepTo (targetOf d.profile d.seg) (segSlope d.profile d.seg) d.setpoint
    let d := { d with setpoint := v }
    if v ≠ targetOf d.profile d.seg then d
    else if segDwell d.profile d.seg ≠ 0 then { d with phase := .dwell }
    else glideSeg 4 (d.seg + 1) d
  | .resume =>
    let v := stepTo (d.command * 100) (glResume d.record) d.setpoint
    { d with setpoint := v, phase := if v = d.command * 100 then .idle else .resume }
  | .idle =>
    if d.failing ∧ recFailDir d.record ≠ 2 ∧ (d.st = .running ∨ d.st = .ready ∨ d.st = .stopped) then
      let t : Int := if recFailDir d.record = 0 then recFailLow d.record else recFailHigh d.record
      { d with setpoint := stepTo (t * 100) (glResume d.record) d.setpoint }
    else d
  | _ => d
def execSetpointUpdate (c : ChanId) (s : State) : Out :=
  .next (let d := (s.chan c).die
    if d.alive then pauseAtStop c (setDie c (setpointUpdate d) s) else s)

/-! ### Digital inputs (R172, R174) -/

/-- EDGE_ACCEPTED: the accepted state, EDGE_COUNT, the stamp; in COUNTER the edges that COUNT_EDGE and the gate select. -/
def edgeAccepted (level : Bool) (stamp : Half) (d : DieSt) : DieSt :=
  if !modeDigIn d.m ∨ d.accepted = level ∨ d.st = .off ∨ d.st = .starting then d
  else
    let sel := match recCountEdge d.record with | 0 => level | 1 => !level | _ => true
    let counts := d.m == 4 && sel && (!recGateEn d.record || d.gate)
    { d with accepted := level, edgeCount := d.edgeCount + 1, lastEdge := stamp, count := if counts then d.count + 1 else d.count }
/-- The die's microsecond counter (R173). -/
def dieMicros (s : State) (d : DieSt) : Half := d.time + BitVec.ofNat 16 ((s.now - d.timeAt) / 1000)
/-- A raw state has stayed for FILTER_US, within the filter's accuracy of ±2 % + 1 µs (Table 7-3). -/
def filterOver (d : DieSt) (ageUs : Nat) : Bool :=
  let f := field d.record 4 4
  decide (98 * f ≤ 100 * ageUs + 100) && decide (100 * ageUs ≤ 102 * f + 100)
/-- EDGE_ACCEPTED: the stamp is the microsecond at which the raw state took its value, not that of acceptance (R172, R173). -/
def execEdgeAccepted (c : ChanId) (level : Bool) (ageUs : Half) (s : State) : Out :=
  .next (let d := (s.chan c).die
    if d.alive && filterOver d ageUs.toNat then setDie c (edgeAccepted level (dieMicros s d - ageUs) d) s else s)

/-! ### Conditions (R177–R181, R260) -/

/-- A change of conditions of channel `c` while its controller runs. -/
def dieCond (c : Nat) (f : DieSt → DieSt) (s : State) : State :=
  let d := (s.chan c).die
  if d.alive then dieUpdate c (f d) s else s

/-- CURRENT_LIMIT: the limit begins to act on a closed switch, whose load current is then the limited one, or ends. -/
def execCurrentLimit (c : ChanId) (ma : LimitCurrent) (s : State) : Out :=
  .next (dieCond c (fun d =>
    if modeDigOut d.m && (!ma.active || d.closed) then { d with limiting := ma.active, value := ma.ma.toNat } else d) s)

/-- The sensor supply on RET is on (Table 7-1). -/
def sensorSupply (d : DieSt) : Bool := d.m == 7 || ((d.m == 1 || d.m == 2 || d.m == 4) && recSupplyEn d.record)
/-- OVERLOAD: 1 ms in the limit sets it, 10 ms out of it clears it. -/
def execOverload (c : ChanId) (set : Bool) (s : State) : Out :=
  .next (dieCond c (fun d =>
    if !set then { d with limiting := false }.clr dbOverload
    else if !(modeDigOut d.m || sensorSupply d) then d
    else if d.has dbOverload ∨ (modeDigOut d.m ∧ !d.limiting) then d
    else { d with ovlCount := satInc d.ovlCount }.set dbOverload) s)

/-- OVERTEMP: the switch opens, in SAFE_PM both. -/
def execOvertemp (c : ChanId) (s : State) : Out :=
  .next (dieCond c (fun d =>
    if !modeDigOut d.m ∨ d.tripped then d
    else { d with tripped := true, cooled := false, offSeen := false, limiting := false
                  ovlCount := satInc d.ovlCount }.set dbOvertemp) s)

/-- THERMAL_COOLDOWN: LATCH 0 closes again; LATCH 1 waits for an off command. -/
def execThermalCooldown (c : ChanId) (s : State) : Out :=
  .next (dieCond c (fun d =>
    if !d.tripped then d
    else if recLatch d.record then { d with cooled := true }
    else { d with tripped := false, cooled := false, offSeen := false }.clr dbOvertemp) s)

/-- OPEN_WIRE on DO and SAFE_PM: in the on state, or under the test current. -/
def execOpenWire (c : ChanId) (set : Bool) (s : State) : Out :=
  .next (dieCond c (fun d =>
    if !(modeDigOut d.m && recWireCheck d.record) then d
    else if !set then d.clr dbOpenWire
    else if d.closed || d.testing then d.set dbOpenWire else d) s)

/-- OFF_STATE_TEST: after 10 ms off the test current flows. -/
def execOffStateTest (c : ChanId) (s : State) : Out :=
  .next (dieCond c (fun d =>
    if modeDigOut d.m && recWireCheck d.record && !d.applied then { d with testing := true } else d) s)

/-- NAMUR_LINE_FAULT. -/
def execNamurLineFault (c : ChanId) (short set : Bool) (s : State) : Out :=
  .next (dieCond c (fun d =>
    let b := if short then dbShort else dbOpenWire
    if !(d.m == 3 && recWireCheck d.record) then d else if set then d.set b else d.clr b) s)

/-- MISMATCH: suspended while the limit, the thermal shutdown or the test current acts. -/
def execMismatch (c : ChanId) (set : Bool) (s : State) : Out :=
  .next (dieCond c (fun d =>
    if !modeDigOut d.m ∨ d.limiting ∨ d.tripped ∨ d.testing then d
    else if set then d.set dbMismatch else d.clr dbMismatch) s)

/-- LPLUS_LOW: every mode but OFF. -/
def execLplusLow (c : ChanId) (set : Bool) (s : State) : Out :=
  .next (dieCond c (fun d => if d.mode = 0 then d else if set then d.set dbLplus else d.clr dbLplus) s)

/-- SWITCH_TEST (R260): a switch that does not follow locks the channel out, both switches open, COMMANDED kept; no test
while the limit or the shutdown acts. -/
def execSwitchTest (c : ChanId) (mSwitch follows : Bool) (s : State) : Out :=
  .next (dieCond c (fun d =>
    if d.m ≠ 6 ∨ d.limiting ∨ d.tripped ∨ d.lockout ∨ follows then d
    else { d with lockout := true, lockM := mSwitch }) s)

/-! ### Conversions (R190, R194–R201) -/

/-- Conversions in a row that a time of `ms` takes, both ends counted (R200). -/
def convN (ms : Nat) : Nat := 10 * ms + 1

/-- Count a condition and set or clear its flag after `on` and `off` conversions in a row. -/
def convFlag (b on off : Nat) (cond : Bool) (d : DieSt) : DieSt :=
  let n := if cond then tget 0 d.onRun b + 1 else 0
  let f := if cond then 0 else tget 0 d.offRun b + 1
  let d := { d with onRun := tset 0 d.onRun b n, offRun := tset 0 d.offRun b f }
  if cond && decide (on ≤ n) then d.set b else if !cond && decide (off ≤ f) then d.clr b else d

def saturate (lo hi v : Int) : Int := if v < lo then lo else if hi < v then hi else v

/-- Table 8-3 for a current. -/
def currentFlags (v : Int) (inLimit : Bool) (d : DieSt) : DieSt :=
  let ne := recNe43 d.record
  let rangeHi := if ne then decide (21000000 ≤ v) else decide (24000000 ≤ v)
  let open_ := ne && decide (v ≤ 3600000)
  let oor := if ne then (decide (3600000 < v) && decide (v < 3800000)) || (decide (20500000 < v) && decide (v < 21000000))
    else decide (v < -100000) || (decide (22000000 < v) && decide (v < 24000000))
  let d := convFlag 9 (convN 1) (convN 10) oor (convFlag 10 (convN 1) (convN 10) open_ (convFlag 11 (convN 1) (convN 10) rangeHi d))
  if d.m = 0x11 then convFlag 8 (convN 1) (convN 10) inLimit d else d

/-- Table 8-3 for a voltage. -/
def voltageFlags (v : Int) (d : DieSt) : DieSt :=
  convFlag 10 (convN 1) (convN 10) (decide (v < -100000)) (convFlag 11 (convN 1) (convN 10) (decide (10500000 < v)) d)

/-- COMPLIANCE and FAIL_UNATTAINED (R195, R197). -/
def outputFlags (d : DieSt) : DieSt :=
  let diff := if d.setpoint < d.value * 100 then d.value * 100 - d.setpoint else d.setpoint - d.value * 100
  let had := d.has 10
  let d := convFlag 10 (convN 2) (convN 2) (decide (20000000 < diff)) d
  let d := if d.has 10 && !had then { d with complCnt := satInc d.complCnt } else d
  let short := d.failing && recFailDir d.record == 1 && decide (d.setpoint = recFailHigh d.record * 100) && decide (d.value < 21000000)
  let n := if short then tget 0 d.onRun 9 + 1 else 0
  let paused := d.st == .gliding || d.st == .holding
  let d := { d with
    onRun := tset 0 d.onRun 9 n, faultRun := if !d.has 10 then 0 else if paused then d.faultRun else d.faultRun + 1 }
  if decide (convN 2 ≤ n) then d.set 9 else d

/-- `a` moved toward `b` by an open part of the way (log 39). -/
def toward (free : Word) (a b : Int) : Int := a + (b - a) * free.toNat / 2 ^ 32
/-- The first-order filter of CH_AFILT over one conversion period of 0.1 ms: with the time constant of FILT_MS the output goes
1 − e^(−u) of the way to the input, u = 0.1 / FILT_MS. What lies between that value's bounds u − u²/2 and u is open; it starts
settled on its first input (log 39). -/
def filtered (free : Word) (d : DieSt) (x : Int) : Int :=
  let f := field d.record 0x34 4
  if modeAo d.m ∨ f = 0 ∨ !d.settled then x
  else d.value + (x - d.value) * ((20 * f - 1) * 2 ^ 32 + free.toNat : Nat) / (200 * f * f * 2 ^ 32 : Nat)

/-- What the reservoir holds when full, in tenths of a µJ: 6 mJ to the 7.2 mJ that 0.6 W recharges in 12 ms (R193, Table 8-2). -/
def reservoirFull : Nat := 60000 + Config.reservoirSpare.toNat % 12001
/-- LOOP_V in 10 mV: the compliance supply less 0.2 V and 64 Ω times the current, within 0.6 V (Table 8-1) and the 1 % of the
measurement (R192); outside 0–22 mA the table gives no bounds and it is as measured. -/
def loopVolts (supply : Nat) (a : AnaIn) (v : Int) : Nat :=
  if v < 0 ∨ 22000000 < v then a.loopV.toNat
  else
    let typ := supply - 20 - 64 * v.toNat / 10000000
    max ((typ - 60) * 99 / 100) (min ((typ + 60) * 101 / 100) a.loopV.toNat)
/-- The loop power in mW that `v` nA asks for, and what the loop gets: up to 1.2 W, from an empty reservoir up to 0.6 W (R193). -/
def loopAsks (d : DieSt) (a : AnaIn) (v : Int) : Nat :=
  let volts := if modeAo d.m then a.termV.toNat else if d.m = 0x11 then loopVolts d.supply.toNat a v else 0
  volts * v.toNat / 100000000
def loopPower (d : DieSt) (a : AnaIn) (v : Int) : Nat := min (if d.reservoir = 0 then 600 else 1200) (loopAsks d a v)
/-- A voltage in 10 mV that moves toward `target` at no less than 20 V/ms up and 5 V/ms down, over 100 µs (R192). -/
def supplyStep (free : Word) (old target : Nat) : Nat :=
  if old + 200 < target then (toward free (old + 200) target).toNat
  else if target + 50 < old then (toward free (old - 50 : Nat) target).toNat
  else target
/-- The supply that the mode asks for (R192); it falls while an empty reservoir limits the loop power (R193). -/
def supplyTarget (d : DieSt) (a : AnaIn) (short : Bool) : Nat :=
  if short then 300 else if modeAo d.m then min 2600 (max 300 (a.termV.toNat + 200)) else if d.m = 0x11 then 2600 else 0
/-- One conversion period of the compliance supply and the reservoir: above 0.6 W it is drawn on, below it is recharged. -/
def loopSupply (free : Word) (a : AnaIn) (v : Int) (d : DieSt) : DieSt :=
  let p := loopPower d a v
  let e := min reservoirFull (d.reservoir + 600 - p)
  let short := decide (e = 0) && decide (600 < loopAsks d a v)
  { d with power := BitVec.ofNat 16 p, reservoir := e
           supply := BitVec.ofNat 16 (supplyStep free d.supply.toNat (supplyTarget d a short)) }

/-- The value that a conversion delivers: saturated as Table 8-1 gives, filtered as CH_AFILT gives; AO_I delivers its readback. -/
def converted (free : Word) (d : DieSt) (v : Int) : Int :=
  if modeAo d.m then v
  else if d.m = 0x12 then saturate (-1000000) 11000000 (filtered free d v)
  else saturate (-1000000) 25000000 (filtered free d v)
/-- A conversion on the die: value, supply, and the flags that it judges (R190, R192, R193, R200). -/
def conversion (f g : Word) (a : AnaIn) (d : DieSt) : DieSt :=
  if d.st = .off ∨ d.st = .starting ∨ !(modeAo d.m || modeAnaIn d.m) then d
  else
    let v := converted f d a.value
    let lv : Half := if d.m = 0x11 then BitVec.ofNat 16 (loopVolts d.supply.toNat a v) else 0
    let d := loopSupply g a v { d with value := v, settled := true, loopV := lv }
    if d.m = 0x12 then voltageFlags v d else if modeAo d.m then outputFlags d else currentFlags v a.inLimit d
/-- CONVERSION (R190, R200). -/
def execConversion (c : ChanId) (a : AnaIn) (s : State) : Out :=
  .next (
    let f := s.drawWord
    let g := f.2.drawWord
    dieCond c (conversion f.1 g.1 a) g.2)

/-- CH_FAULT_MS in conversions (Table 8-5, R200). -/
def faultConvs (r : List Byte) : Nat := 10 * (if field r 0x2C 4 = 0 then 1000 else field r 0x2C 4)
/-- OUTPUT_FAULT (R196, R198): COMPLIANCE has been set for CH_FAULT_MS, not counting while gliding or holding. FAIL_LOW and
FAIL_HIGH start from the readback, and the manual names no PHASE for their ramp: the model shows IDLE (DESIGN CHOICE, log 39);
with KEEP a resume ramp goes on to the command. -/
def execOutputFault (c : ChanId) (s : State) : Out :=
  .next (dieCond c (fun d =>
    if !(modeAo d.m) ∨ d.failing ∨ !d.has 10 ∨ d.faultRun < faultConvs d.record ∨ d.st = .gliding ∨ d.st = .holding then d
    else
      let d := { d with failing := true, attained := d.value }.set 11
      if recFailDir d.record = 2 then d else { d with phase := .idle, setpoint := d.value * 100 }) s)

/-! ### Inbound field (Tables 7-6, 7-8, 7-10, 8-9) -/

def ChPhase.code : ChPhase → Nat
  | .off => 0 | .starting => 1 | .ready => 2 | .running => 3 | .holding => 4 | .gliding => 5 | .stopped => 6 | .lost => 7
def GlidePhase.code : GlidePhase → Nat
  | .idle => 0 | .delay => 1 | .ramp => 2 | .dwell => 3 | .end_ => 4 | .pulse => 5 | .resume => 6

/-- CH_GLIDE_STATE (Table 8-8). -/
def glideState (d : DieSt) : Word :=
  atBit 12 d.trigger ||| natAt 8 d.phase.code ||| natAt 0 (if d.phase = .ramp ∨ d.phase = .dwell then d.seg else 0)

/-- APPLIED_UA: the setpoint in µA. -/
def appliedUa (d : DieSt) : Half := if modeAo d.m then BitVec.ofNat 16 (d.setpoint / 100000).toNat else 0

/-- VALUE; `free` supplies what is measured at the terminal: RAW, SENSED, M_SENSED, LOAD_MA (log 12). Switches that thermal
shutdown or a test lockout holds open read open, but for the one that failed its test; no load current flows (R177, R260). -/
def dieValue (free : Word) (d : DieSt) : Word :=
  if d.m = 4 then d.count
  else if modeDigIn d.m then
    atBit 8 d.edgeCount ||| boolBit 1 (free.getLsbD 1) ||| boolBit 0 (d.accepted != (recInvert d.record && d.m ≠ 7))
  else if modeDigOut d.m then
    let ma : Word := if d.tripped || d.lockout then 0 else if d.limiting then BitVec.ofInt 32 d.value else free >>> 16
    let mOpen := d.tripped || (d.lockout && !d.lockM)
    let pOpen := d.tripped || (d.lockout && d.lockM)
    (ma <<< 16) ||| boolBit 2 (d.m == 6 && !mOpen && free.getLsbD 2) ||| boolBit 1 (!pOpen && free.getLsbD 1) ||| boolBit 0 d.applied
  else if modeAo d.m || modeAnaIn d.m then BitVec.ofInt 32 d.value
  else 0

/-- STATUS (Table 7-8). -/
def dieStatus (d : DieSt) : Word :=
  let hi : Half := if modeDigIn d.m then d.lastEdge else if modeAo d.m then appliedUa d else if d.m = 0x11 then d.loopV else 0
  let ok := d.st == .running && decide ((d.live &&& 0xFFE) = 0)
  atBit 16 hi ||| boolBit 15 d.forced ||| boolBit 14 (d.st == .stopped) ||| boolBit 13 (d.st == .holding)
    ||| boolBit 12 (d.st == .gliding) ||| atBit 0 (d.live &&& 0xFFE) ||| boolBit 0 ok

/-- QUAL of IW2n: 0 GOOD, 1 UNCERTAIN, 3 BAD (R182, R201). -/
def dieQual (d : DieSt) : BitVec 2 :=
  let dout := modeDigOut d.m
  let ao := modeAo d.m
  let av := d.m == 0x12
  let bad := d.has dbOpenWire || d.has dbShort || d.has dbOvertemp || (d.has dbOverload && dout)
    || (ao && (d.has 11 || d.has 9)) || ((d.m == 0x10 || d.m == 0x11) && (d.has 11 || d.has 10 || d.has 8))
    || (av && ((d.has 11 && decide (11000000 ≤ d.value)) || (d.has 10 && decide (d.value ≤ -1000000))))
  let unc := d.has dbMismatch || d.has dbLplus || d.has dbOverload || (ao && d.has 10)
    || ((d.m == 0x10 || d.m == 0x11) && d.has 9) || (av && (d.has 11 || d.has 10))
  if d.st = .running ∨ d.st = .holding ∨ d.st = .gliding then (if bad then 3 else if unc then 1 else 0) else 3

def dieFw (d : DieSt) : Half := if d.slot1 then d.fw1.ver else d.fw0.ver

/-- AUX item `i`; the die temperature is a measured value (log 12). -/
def dieAux (free : Word) (d : DieSt) (i : Nat) : Half :=
  match i with
  | 0 => free.setWidth 16
  | 1 => d.ovlCount
  | 2 => d.wdCount
  | 3 => d.crc.setWidth 16
  | 4 => (d.crc >>> 16).setWidth 16
  | 5 => dieFw d
  | 6 => d.crcErrs
  | 7 => d.supply
  | 8 => BitVec.ofNat 16 (d.reservoir / 10)
  | 9 => d.power
  | 10 => (glideState d).setWidth 16
  | 11 => d.glideCnt
  | 12 => d.complCnt
  | 13 => BitVec.ofNat 16 (d.attained / 1000).toNat
  | 14 => if d.clamped then 1 else 0
  | _ => 0

end Sys2Proof.Machine
end

