-- ==== Sys2Proof/Machine/PairMonitor.lean ====
section
/-! DEFINITION. The pair monitor of the safety subsystem (R255–R258): what a change of the channels' view does to a pair. -/

namespace Sys2Proof.Machine

def pairOf (s : State) (k : Nat) : SafePair := tget {} s.safe.pairs k
def setPair (k : Nat) (x : SafePair) (s : State) : State := { s with safe := { s.safe with pairs := tset {} s.safe.pairs k x } }

def PairPhase.code : PairPhase → Nat
  | .unused => 0 | .starting => 1 | .permit => 2 | .demand => 3 | .discrepant => 4 | .fault => 5
/-- SAFE_PAIR (Table 10-10). -/
def pairWord (p : SafePair) : Word := natAt 28 p.st.code ||| boolBit 27 p.safe ||| atBit 0 p.lastMs

def disagrees (p : SafePair) : Bool := p.nc.unfit || p.no.unfit || p.nc.v == p.no.v
/-- PERMIT or DEMAND from the present states. -/
def pairSettle (p : SafePair) : SafePair :=
  if p.nc.v then { p with st := .permit, safe := true } else { p with st := .demand, safe := false }

/-- A change of the channels' view, with its stamp in µs (R255, R256). -/
def pairJudge (stamp : Nat) (p : SafePair) : SafePair :=
  match p.st, p.since with
  | .unused, _ => p
  | .starting, _ => p
  | .fault, none => if disagrees p then { p with since := some stamp } else p
  | .fault, some b =>
    if disagrees p then p else { p with since := none, lastMs := satOf 16 (absDiff stamp b / 1000) }
  | _, none => if disagrees p then { p with since := some stamp, st := .discrepant, safe := false } else p
  | _, some b =>
    if disagrees p then p
    else
      let p := { p with since := none, lastMs := satOf 16 (absDiff stamp b / 1000) }
      if p.tMs * 1000 ≤ absDiff stamp b then { p with st := .fault, safe := false } else pairSettle p

/-- A starting pair after 10 slots in a row with both channels' fields (R258). -/
def pairStart (now : Nat) (p : SafePair) : SafePair :=
  if p.st = .starting ∧ 10 ≤ p.slots then
    if disagrees p then { p with st := .discrepant, since := some now } else pairSettle p
  else p

/-- The edge's absolute time in µs from LAST_EDGE_US (R173, R255). -/
def edgeTime (now : Nat) (stamp : Half) : Nat := now - (BitVec.ofNat 16 now - stamp).toNat

/-- The channel's words read QUAL BAD (R255). -/
def monitorBad (c : Nat) (s : State) : State :=
  let p := pairOf s (c / 2)
  if !p.used || s.safe.st != .run then s
  else
    let p := if c % 2 = 0 then { p with nc := { p.nc with unfit := true } } else { p with no := { p.no with unfit := true } }
    setPair (c / 2) (pairJudge s.tbrd p) s

end Sys2Proof.Machine
end

