-- ==== Sys2Proof/Machine/Compare.lean ====
section
/-! DEFINITION. What a Publish brings in a pair (R266, R282, R286–R288): PARTNER and DELTA records, the comparison of
batches in the standby, the replay lag, the way to READY (R296). -/

namespace Sys2Proof.Machine

/-- The PARTNER records of Tt's words with ENDPOINT 5 (Table 11-6). -/
def sendPartner (t : Nat) (s : State) : State :=
  let ws := (ownedRoutes s.run t).filter (fun r => r.endpoint == 5)
  (parts 168 ws).foldl (fun s p => sendRecord 10 (p.2.flatMap (fun r => entryBytes r.num (s.qwGet r.num))) s) s

/-- KIND 1 of Table 11-16. -/
def timerDelta (n : Nat) (x : TimerSt) : DeltaEntry :=
  ⟨1, BitVec.ofNat 16 n, leBytes 6 x.elapsed.toNat
    ++ [BitVec.ofNat 8 (x.inp.toNat + 2 * x.rst.toNat + 4 * x.q.toNat + 8 * x.run.toNat), 0, 0, 0, 0, 0]⟩

/-- The DELTA records of an activation: the task's timers, and the changes gathered since the last. -/
def sendDelta (t : Nat) (act : Word) (s : State) : State :=
  let ts := (s.timers.filter (fun e => e.2.used && e.2.owner.toNat == t)).map (fun e => timerDelta e.1 e.2)
  let es := ts ++ s.red.delta
  let s := { s with red := { s.red with delta := [] } }
  (parts 126 es).foldl (fun s p => emitDelta t act p.2 s) s

/-- The replay lag of an activation that has flipped here (R287), from the arrival of its COMPARE record (log 16). -/
def replayLag (t : Nat) (act : Word) (s : State) : State :=
  if !standby s then s
  else
    let lag := match s.red.compares.find? (fun e => e.1.task.val == t && e.1.act == act) with
      | some e => s.now - e.2
      | none => 0
    let w := satOf 32 lag
    let s := { s with red := { s.red with lag := w, lagMax := if s.red.lagMax.toNat < w.toNat then w else s.red.lagMax } }
    if 1000000 ≤ lag then disqualify dqLag s else s

/-- What follows the seal flip of activation `act` of Tt in a pair. -/
def afterPublish (t : Nat) (act : Word) (s : State) : State :=
  if s.red.st = .single then s
  else
    let s := sendDelta t act (sendPartner t s)
    settleCompares (replayLag t act (recordBatch t act 0 (dropReads t act s)))

end Sys2Proof.Machine
end

