-- ==== Sys2Proof/Machine/Timetable.lean ====
section
/-! DEFINITION. The Timetable and the collector's apply port: due times, events, Roll Call, Lessons, waves, Publish,
overrun and the task watchdog (chapter 05; R58–R80 for the waves). -/

namespace Sys2Proof.Machine

/-! ### An edit that waits (R155, R166) -/

/-- The activation boundary of an edit: in a pair, activation B − 1 of the task has published. A task that is stopped enters
Recess at once. -/
def editAgreed (j : LoadJob) (s : State) : Bool :=
  let x := s.task j.edit.task
  match j.commit with
  | some c => x.st == .stopped || x.st == .fault || x.st == .unused || c.2 == x.actCnt + 1 || ahead (x.actCnt + 1) c.2
  | none => !pairLoads s || s.red.st == .active || s.red.st == .single

/-- An edit of Tt waits for Recess, which comes before the task's next activation; in a standby also an edit that is still
being staged, once the next activation is its B. -/
def recessFirst (s : State) (t : Nat) : Bool :=
  match s.cfg.job with
  | some j => j.delta && j.edit.task == t && editAgreed j s
      && (j.phase == .waiting || (j.commit.isSome && (j.phase == .staging || j.phase == .storing)))
  | none => false

/-! ### Publish (R122, R123, R129, R131–R133) -/

/-- NaN or infinity as binary32: the exponent field is all ones (R133). -/
def nanOrInf (d : Word) : Bool := decide ((d >>> 23) &&& 0xFF = 0xFF)

/-- One owned word at the seal flip: stored by the activation or not, completed as Table 5-7 gives, forced last. -/
def publishWord (s : State) (t : Nat) (r : RouteCfg) (stored : Option ImgWord) : ImgWord × Bool :=
  let old := s.qwGet r.num
  match stored with
  | none => (forceOut s r.num { old with tag := tagOlder old.tag }, false)
  | some w =>
    let bad := r.flags.getLsbD 1 && nanOrInf w.data
    let tag := mkTag (tagOrigin w.tag) (r.group.setWidth 12) 0 (tagGlide w.tag) (tagHold w.tag) (s.task t).simIn false
      (if bad then qBad else tagQual w.tag)
    (forceOut s r.num ⟨if bad then old.data else w.data, tag⟩, bad)

/-- The batch of Tt applied whole: every owned word in routing order, then visible together (R122). -/
def applyBatch (t : Nat) (batch : Tab ImgWord) (s : State) : State :=
  let rs := ownedRoutes s.run t
  let ws := rs.map (fun r => (r.num, publishWord s t r (if tget {} batch r.num = {} then none else some (tget {} batch r.num))))
  let s := ws.foldl (fun s w => s.setQw w.1 w.2.1) s
  let live := (ws.filter (fun w => !tagGlide w.2.1.tag && !s.img.fresh.contains w.1)).map (·.1)
  let s := { s with img := { s.img with fresh := s.img.fresh ++ live } }
  if ws.any (fun w => w.2.2) then s.modTask t (fun x => { x with fault := x.fault ||| boolBit tfNanBad true }) else s

/-- The seal flip of Tt's activation (R113, R122, R125); `hook` is what the flip brings in the safety subsystem and the
pair, before any stop takes effect. A pending activation waits for a Recess that comes first (R155). The port is free. -/
def flipTask (t : TaskId) (hook : State → State) (s : State) : State :=
  let x := s.task t
  let go := x.pending && !recessFirst s t
  let s := applyBatch t x.batch s
  let ns := satOf 32 (s.now - x.startNs)
  let s := s.modTask t (fun x => { x with
    lastNs := ns, maxNs := if x.maxNs.toNat < ns.toNat then ns else x.maxNs
    consec := if x.overran then x.consec else 0
    st := .idle, batch := [], lessons := [], overran := false, pubDawn := true, pubStamp := some x.rcStamp
    wanted := go, startNs := if go then s.now else x.startNs, pending := x.pending && !go })
  let s := hook (setTaskRegions t .idle s)
  let s := portKick (deliverEvent (trigDone t) s)
  match (s.task t).stopReq with
  | some c => stopTask t c s
  | none => s

/-! ### Roll Call (R118–R120) -/

/-- The Roll Call set of Tt: words that its regions' routing words name, and every routed input word when the task has an FB
Lesson or is a safety task (R118). -/
def hasFbLesson (img : ImageCfg) (t : Nat) : Bool := img.lessons.any (fun l => l.kind == 2 && l.task.toNat == t)
def fabricInputs (s : State) (t : Nat) : List Nat :=
  (taskRegions (s.tcfg t)).flatMap (fun r => ((s.region r).active.rws.filter (fun e => rwKind e.2 == 2)).map (fun e => rwWord e.2))
def rollCallSet (s : State) (t : Nat) : List Nat :=
  if hasFbLesson s.run t || (s.tcfg t).kind == 4 then (s.run.routes.filter (fun r => !r.out)).map (·.num)
  else fabricInputs s t

/-- The words of a set as the live input image shows them; in a standby, as the replica shows them (R285). -/
def copyWords (s : State) (ns : List Nat) : Tab ImgWord := ns.foldl (fun p n => tset {} p n (inputOf s n)) []
def anySim (ws : Tab ImgWord) : Bool := ws.any (fun e => tagSim e.2.tag)

/-- Does Tt rank above every other task that waits for the Roll Call unit (R120)? -/
def rankBefore (s : State) (a b : Nat) : Bool :=
  decide ((s.tcfg a).prio.toNat < (s.tcfg b).prio.toNat) || (decide ((s.tcfg a).prio = (s.tcfg b).prio) && decide (a ≤ b))
def rollCallNext (s : State) (t : Nat) : Bool :=
  (s.task t).wanted && (s.task t).st == .idle && !recessFirst s t &&
  taskIds.all (fun u => (s.task u).st != .rollCall && (!((s.task u).wanted && (s.task u).st == .idle) || rankBefore s t u))

/-- Does an input word lie in a consistency group? -/
def grouped (s : State) (n : Nat) : Bool := match routeOf s.run false n with | some r => r.group != 0 | none => false
/-- The rows of a Roll Call set in ascending number, each with its position among all of them; those that hold an ungrouped word are
still to be read, the grouped words being copied from the latched seals (R119, R120). -/
def setRows (s : State) (ns : List Nat) : List (Nat × Nat) :=
  let rows := (ns.map (· / 16)).foldl insNat []
  let open_ := (ns.filter (fun n => !grouped s n)).map (· / 16)
  ((List.range rows.length).zip rows).filter (fun e => open_.contains e.2)
/-- Row `r` of Tt's Roll Call is read: its ungrouped words as they stand (R119). -/
def readRow (t : Nat) (r : Nat) (s : State) : State :=
  let ns := (rollCallSet s t).filter (fun n => n / 16 == r && !grouped s n)
  s.modTask t (fun x => { x with
    snap := ns.foldl (fun p n => tset {} p n (inputOf s n)) x.snap, rows := x.rows.filter (fun e => e.2 != r) })
/-- The rows that the Roll Call in progress has reached: row k at the latch edge + (k + 1) × 4/3 ns (R120). -/
def readRows (t : Nat) (s : State) : State :=
  let x := s.task t
  if x.st = .rollCall then
    ((x.rows.filter (fun e => decide (4 * (e.1 + 1) ≤ 3 * (s.now - x.rcAt)))).map (·.2)).foldl (fun s r => readRow t r s) s
  else s

/-- Start the Roll Call of Tt's activation with the words that it copies at the latch edge and the rows that it has still to
read: counted, regions RUNNING (R119, R120, R406). -/
def startRollCall (t : TaskId) (snap : Tab ImgWord) (rows : List (Nat × Nat)) (s : State) : State :=
  let s := emitMark t 1 ((s.task t).actCnt + 1) (resetReads t s)
  let s := s.modTask t (fun x => { x with
    st := .rollCall, wanted := false, actCnt := x.actCnt + 1, snap := snap, rows := rows, rcAt := s.now
    batch := [], lessons := [], lastQueue := none, rcStamp := s.stamp })
  setTaskRegions t .running { s with stamp := s.stamp + 1 }

/-- A due time that no DUE_TIME has reported falls in this µs of the timebase (R117). -/
def dueNow (s : State) (t : Nat) : Bool :=
  decide (s.tbrd % (s.tcfg t).period.toNat = 0) && (s.task t).lastDue != some s.tbrd

/-- A due time before the flip is skipped and counted; at OVERRUN_LIMIT the policy acts once (R125, R126). -/
def overrun (t : TaskId) (s : State) : State :=
  let c := s.tcfg t
  let old := (s.task t).consec
  let s := s.modTask t (fun x => { x with
    skipped := satInc x.skipped, consec := satInc x.consec, overran := true, fault := x.fault ||| boolBit tfOverrun true })
  let x := s.task t
  if c.ovLimit ≠ 0 ∧ x.consec = c.ovLimit ∧ old ≠ c.ovLimit then
    let pol := (c.flags >>> 1).toNat % 4
    let s := diaryRaise 0x3003 (BitVec.ofNat 16 t.val) ([BitVec.ofNat 8 pol, 0, 0, 0] ++ wordBytes x.skipped) s
    let s := if pol = 2 then healthRequest soOverrun s else s
    if pol = 1 ∨ pol = 2 then
      stopAtEnd t 5 (s.modTask t (fun x => { x with fault := x.fault ||| boolBit tfOvrStop true }))
    else s
  else s

/-- DUE_TIME (R117, R125, R126, R158): the Roll Call is requested; in Recess a due time is kept for the exit edge. A standby
starts its activations from MARK records, and counts its own overruns (R126, R285). -/
def dueTime (t : TaskId) (s : State) : State :=
  let c := s.tcfg t
  if !s.running || !(ownTiming s || standby s) || !(c.kind == 1 || c.kind == 4) || !dueNow s t then s
  else
    let s := s.modTask t (fun x => { x with lastDue := some s.tbrd })
    let x := s.task t
    if x.busy ∧ x.st ≠ .recess then overrun t s
    else if ownTiming s ∧ (x.st = .recess ∨ x.st = .idle) ∧ !x.wanted ∧ !offInRecess s t then
      s.modTask t (fun x => { x with wanted := true, startNs := s.now, overran := false })
    else s

def execDueTime (t : TaskId) (s : State) : Out := .next (dueTime t s)

/-- EVENT_ARRIVAL (R113): an input or quality change that a write has made arrives. The other sources of Table 5-3 deliver
their events themselves (log 30). -/
def execEventArrival (trigger : Word) (s : State) : Out :=
  .next (
    if s.img.events.contains trigger then
      deliverEvent trigger { s with img := { s.img with events := s.img.events.erase trigger } }
    else s)

/-- ROLL_CALL (R119, R120): the unit takes the task when it is free and the task ranks first. The seals are latched: grouped
words are copied as they stand at this edge. -/
def execRollCall (t : TaskId) (s : State) : Out :=
  .next (
    if s.running && ownTiming s && rollCallNext s t then
      let ns := rollCallSet s t
      startRollCall t (copyWords s (ns.filter (grouped s))) (setRows s ns) s
    else s)

/-! ### Lessons (R121) -/

/-- The Lesson records of Tt. -/
def taskLessons (c : TaskCfg) : List Nat := (List.range c.count.toNat).map (fun i => c.first.toNat + i)

def lessonState (s : State) (l : Nat) : LessonState := tget .waiting (s.task (lessonCfg s.run l).task.toNat).lessons l
def setLesson (t l : Nat) (v : LessonState) (s : State) : State :=
  s.modTask t (fun x => { x with lessons := tset .waiting x.lessons l v })

/-- Waiting Lessons all of whose predecessors have completed become ready. -/
def readyLessons (t : Nat) (s : State) : State :=
  (taskLessons (s.tcfg t)).foldl (fun s l =>
    if tget .waiting (s.task t).lessons l = .waiting
      ∧ (lessonCfg s.run l).preds.all (fun p => tget .waiting (s.task t).lessons p = .done) then setLesson t l .ready s else s) s

/-- All Lessons have completed: the task publishes (R122). -/
def maybePublish (t : Nat) (s : State) : State :=
  if (taskLessons (s.tcfg t)).all (fun l => tget .waiting (s.task t).lessons l = .done) then becomeReady t s else s

/-- ROLL_CALL_END (R120, R121, R122, R131): every row has been read; Lessons without predecessors are ready; a task without
Lessons publishes; a safety task waits for its run (R250). -/
def execRollCallEnd (t : TaskId) (s : State) : Out :=
  .next (
    if (s.task t).st ≠ .rollCall then s
    else
      let s := ((s.task t).rows.map (·.2)).foldl (fun s r => readRow t r s) s
      let s := s.modTask t (fun x => { x with st := .running, simIn := anySim x.snap })
      if (s.tcfg t).kind = 4 then s else maybePublish t (readyLessons t s))

/-- Among Lessons ready for one engine: priority, task number, Lesson index (R121). -/
def lessonFirst (s : State) (l : Nat) : Bool :=
  let c := lessonCfg s.run l
  (List.range s.run.lessons.length).all (fun k =>
    let d := lessonCfg s.run k
    !(d.kind == 2 && d.unit == c.unit && lessonState s k == .ready) ||
    (if d.task = c.task then decide (l ≤ k) else rankBefore s c.task.toNat d.task.toNat))

/-- LESSON_START (R85, R86, R121): a ready FB Lesson starts on its free engine, with W1–W31 zero and PC at ENTRY. The engine
starts no Lesson while a page with a failed instruction word waits to be reloaded (R84). -/
def execLessonStart (l : Nat) (s : State) : Out :=
  .next (
    let c := lessonCfg s.run l
    let e := c.unit.toNat
    let x := s.engine e
    if c.kind = 2 ∧ e < 24 ∧ x.run = .free ∧ x.eccInstr = [] ∧ lessonState s l = .ready ∧ lessonFirst s l
      ∧ (s.task c.task.toNat).st = .running then
      let s := s.setEngine e { x with w := [], pc := zext64 c.entry, run := .lesson (Fin.ofNat 32 c.task.toNat) l }
      setLesson c.task.toNat l .running s
    else s)
where zext64 (w : Word) : Dword := w.setWidth 64

/-- The queue whose marker ends Lesson `l`. -/
def lessonQueue (img : ImageCfg) (l : Nat) : Nat :=
  let c := lessonCfg img l
  if c.kind = 1 then lessonRegion img l else 16 + c.unit.toNat % 24

/-- LESSON_COMPLETE (R100, R121, R142): the collector takes everything in front of the marker, and the marker. -/
def lessonComplete (l : Nat) (s : State) : State :=
  let c := lessonCfg s.run l
  let t := c.task.toNat
  if lessonState s l ≠ .ended ∨ (s.task t).st ≠ .running then s
  else
    let i := lessonQueue s.run l
    let p := splitMarker l (queueOf s i)
    let s := takeAll (decide (c.kind = 1)) p.1 (setQueue i p.2 s)
    let s := if c.kind = 2 then s.modEngine c.unit.toNat (fun x => { x with run := .free }) else s
    let s := s.modTask t (fun x => { x with lastQueue := some i })
    maybePublish t (readyLessons t (setLesson t l .done s))

/-- The safety run of Tt ends: its marker is taken from queue 40 (R250). -/
def safetyComplete (s : State) : State :=
  match (s.engine safeEngine).run with
  | .ended t l =>
    let p := splitMarker l (queueOf s 40)
    let s := takeAll false p.1 (setQueue 40 p.2 s)
    let s := s.modEngine safeEngine (fun x => { x with run := .free })
    becomeReady t (s.modTask t (fun x => { x with lastQueue := some 40 }))
  | _ => s
where safeEngine : Nat := 24

/-- LESSON_COMPLETE. The safety run's END marker carries Lesson number 0xFFFF (log 10). -/
def execLessonComplete (l : Nat) (s : State) : Out :=
  .next (if l = 0xFFFF then safetyComplete s else lessonComplete l s)

/-! ### Waves -/

/-- WAVE (R66, R67, R78): the ready wave Lessons with the predecessors of `l` start as one joint wave. Dusk starts no further
wave (R79). -/
def execWave (l : Nat) (s : State) : Out :=
  .next (
    let c := lessonCfg s.run l
    let t := c.task.toNat
    if !s.running then s
    else if c.kind = 1 ∧ (s.tcfg t).kind ≠ 3 ∧ lessonState s l = .ready ∧ (s.task t).st = .running then
      let ls := jointLessons s.run l
      match startWave (s.task t).snap t ls s with
      | some s => ls.foldl (fun s k => setLesson t k .running s) s
      | none => s
    else if c.kind = 1 ∧ (s.tcfg t).kind = 3 ∧ (s.task t).st = .running ∧ (s.task t).wanted then
      match startWave (s.task t).mirror t (taskLessons (s.tcfg t)) s with
      | some s => s.modTask t (fun x => { x with wanted := false })
      | none => s
    else s)

/-- The mirror of a reflex task from the live input image (R71). -/
def mirrorWords (s : State) (t : Nat) : Tab ImgWord := copyWords s ((s.tcfg t).trigger.toNat :: fabricInputs s t)

/-- Start one activation of a reflex task: one joint wave of all its regions (R71, R75, R115). In a standby the wave waits
for its Q captures; WAVE then starts it. -/
def startReflex (t : TaskId) (startNs : Nat) (s : State) : State :=
  let s := emitMark t 2 ((s.task t).actCnt + 1) (resetReads t s)
  let m := (s.task t).mirror
  let s := { s with stamp := s.stamp + 1 }.modTask t (fun x => { x with
    st := .running, actCnt := x.actCnt + 1, startNs := startNs, pending := false, simIn := anySim m, rcStamp := s.stamp })
  match startWave m t (taskLessons (s.tcfg t)) s with
  | some s => s
  | none => s.modTask t (fun x => { x with wanted := true })

/-- A MARK that waited starts its activation once the task is idle (R285). -/
def nextMark (t : TaskId) (s : State) : State :=
  match s.red.marks.find? (fun m => m.task == t) with
  | none => s
  | some m =>
    if (s.task t).st ≠ .idle || !s.running || recessFirst s t || regionFaulted s t then s
    else
      let s := { s with red := { s.red with marks := s.red.marks.erase m } }
      let s := s.modTask t (fun x => { x with actCnt := m.act - 1 })
      if m.reflex then startReflex t s.now (s.modTask t (fun x => { x with mirror := m.words }))
      else startRollCall t m.words [] (s.modTask t (fun x => { x with startNs := s.now, overran := false }))

/-- What waits for Tt to be idle starts: a pending activation (R113, R158), in a standby the next MARK (R285). -/
def nextStart (t : TaskId) (s : State) : State :=
  let x := s.task t
  if x.st ≠ .idle || recessFirst s t || !s.running then s
  else if x.pending && ownTiming s then
    if (s.tcfg t).kind = 3 then startReflex t x.pendNs s
    else s.modTask t (fun x => { x with wanted := true, pending := false, startNs := s.now })
  else if standby s then nextMark t s else s

/-- An arrival for reflex task Tt, its trigger word written at `at_`: it starts a wave, is held as pending, merged or
discarded (R73). A task whose stop waits for the end of its activation is not stopped yet: what arrives is held. -/
def reflexArrive (t : TaskId) (at_ : Nat) (s : State) : State :=
  let x := s.task t
  if !s.running || !ownTiming s || (s.tcfg t).kind != 3 || regionFaulted s t || offInRecess s t then s
  else if x.st = .idle ∧ x.stopReq = none ∧ !recessFirst s t then startReflex t at_ s
  else if x.st = .idle ∨ x.st = .running ∨ x.st = .recess then
    if x.pending then s.modTask t (fun x => { x with merged := satInc x.merged })
    else s.modTask t (fun x => { x with pending := true, pendNs := at_ })
  else s

/-- REFLEX_ARRIVAL (R72): a trigger word that the hub or the network engine has written has entered the mirror. -/
def reflexArrival (t : TaskId) (s : State) : State :=
  match s.img.arrivals.find? (fun e => e.1 == t.val) with
  | none => s
  | some e => reflexArrive t e.2 { s with img := { s.img with arrivals := s.img.arrivals.erase e } }

def execReflexArrival (t : TaskId) (s : State) : Out := .next (reflexArrival t s)

/-- Steps whose waves ended at the same edge apply in task priority order, then by task number (R74). -/
def laneInsert (s : State) (x : LaneStep) : List LaneStep → List LaneStep
  | [] => [x]
  | y :: r => if y.endNs = x.endNs ∧ !rankBefore s y.task x.task then x :: y :: r else y :: laneInsert s x r

/-- The end of a reflex wave: its words enter the lane; a pending arrival starts the next wave. A stop that waits takes effect
once the lane has applied the words (R73, R74, R79, R114). Where a region of the task has gone into fault state during the wave, the
activation is not published: nothing of it enters the lane (R19). -/
def reflexEnd (t : TaskId) (env : WaveEnv) (v : WaveVals) (rs : List Nat) (s : State) : State :=
  if (s.task t).waveStop then regionStop t (setTaskRegions t .idle (s.modTask t (fun x => { x with st := .idle }))) else
  let words := rs.foldl (fun p r => (waveOutputs env v r).foldl (fun p e => tset {} p e.1 ⟨e.2, waveTag⟩) p) []
  let step : LaneStep := ⟨t, words, (s.task t).startNs, s.now, (s.task t).rcStamp, (s.task t).actCnt⟩
  let s := { s with img := { s.img with lane := laneInsert s step s.img.lane } }
  let bb := rs.flatMap (fun r => (sinkWords env v 9 rwBbWord rwBbBit r).map (fun e => QEntry.bb t e.1 e.2.1 e.2.2))
  let s := takeAll true bb s
  let s := s.modTask t (fun x => { x with st := .idle })
  let s := setTaskRegions t .idle s
  if (s.task t).stopReq.isSome then s else nextStart t s

/-- Flip the upset state bits, parity kept: what a particle does to a state bit (R62). -/
def applyUpsets (ups : List Nat) (rs : List Nat) (s : State) : State :=
  ups.foldl (fun s a =>
    if rs.contains (addrRegion a) then
      s.modRegion (addrRegion a) (fun x => { x with bits := tmod false x.bits (a % 8192) (fun b => !b) })
    else s) s

/-- An upset bit of a configuration plane: the waves of its region evaluate the wrong word until it is corrected (R55). -/
def upsetPlane (s : State) (b : PlaneBit) : State :=
  let b := if b.routing then { b with bit := Fin.ofNat 128 (b.bit.val % 64) } else { b with idx := Fin.ofNat 256 (b.idx.val % 128) }
  s.modRegion b.region.val (fun x => { x.flip b with flips := if x.flips.contains b then x.flips.erase b else x.flips ++ [b] })

/-- The regions whose waves run jointly with Lesson `l`. -/
def waveRegions (s : State) (l : Nat) : List Nat :=
  (jointRegions s.run (jointLessons s.run l)).filter (fun r => (s.region r).wave)

/-- The end edge of a joint wave (R62, R78, R79): levels evaluated, parity judged, sinks applied or voided. -/
def waveEnd (l : Nat) (upsets : Upsets) (s : State) : State :=
  let s := upsets.planes.foldl upsetPlane s
  let rs := waveRegions s l
  let c := lessonCfg s.run l
  let t : TaskId := Fin.ofNat 32 c.task.toNat
  if rs = [] then s
  else
    let s := applyUpsets upsets.bits rs s
    let env := waveEnv s rs
    let par := rs.flatMap (fun r => (s.region r).parity.map (fun e => (r * 8192 + e.1, e.2)))
    let errs := parityErrors env par
    let v := evalWave env (fun _ => true)
    let s := rs.foldl (fun s r => s.modRegion r (fun x => { x with
      wave := false, bits := regionBits r v.state, parity := regionBits r v.state
      st := if x.st = .running then .idle else x.st })) s
    if errs ≠ [] then
      let s := rs.foldl (fun s r =>
        match errs.find? (fun a => addrRegion a == r) with
        | some a => healthRequest soRegion (regionFault r (rgFaultCell 1 false (a % 8192)) s)
        | none => s) s
      regionStop t s
    else
      let active := decide ((s.task t).st = .running)
      let s := applyTimerSinks env v s
      if !active then s
      else if (s.tcfg t).kind = 3 then reflexEnd t env v rs s
      else
        let s := setTaskRegions t .running s
        let s := rs.foldl (fun s r =>
          let k := (s.region r).waveLesson
          setLesson t k .ended (queueSinks env v t r k s)) s
        if (s.task t).waveStop then regionStop t s else s

/-- WAVE_END. -/
def execWaveEnd (l : Nat) (upsets : Upsets) (s : State) : Out := .next (waveEnd l upsets s)

/-- The first step of the lane is applied whole, and the activation time taken (R74, R115). -/
def laneApply (s : State) : State :=
  match s.img.lane with
  | [] => s
  | x :: r =>
    let s := applyBatch x.task x.words { s with img := { s.img with lane := r } }
    let ns := satOf 32 (s.now - x.startNs)
    let s := s.modTask x.task (fun y => { y with
      lastNs := ns, maxNs := if y.maxNs.toNat < ns.toNat then ns else y.maxNs, pubDawn := true, pubStamp := some x.stamp })
    let s := portKick (afterPublish x.task x.act s)
    match (s.task x.task).stopReq with
    | some c => if (s.task x.task).st = .idle ∧ !lanePending x.task s then stopTask x.task c s else s
    | none => s

/-- REFLEX_LANE_APPLY. -/
def execReflexLaneApply (s : State) : Out := .next (laneApply s)

/-- TASK_WATCHDOG (R127): the activation time has reached WATCHDOG_US; the task stops with cause 4. A task in Recess has no
activation (R124). -/
def execTaskWatchdog (t : TaskId) (s : State) : Out :=
  .next (
    let x := s.task t
    let c := s.tcfg t
    if x.busy ∧ x.st ≠ .recess ∧ c.kind ≠ 3 ∧ c.watchdog.toNat * 1000 ≤ s.now - x.startNs then
      let s := s.modTask t (fun x => { x with fault := x.fault ||| boolBit tfWatchdog true })
      let s := stopTask t 4 s
      if (s.tcfg t).flags.getLsbD 0 then healthRequest soWatchdog s else s
    else s)

/-! ### Input words (Table 5-7) -/

/-- The simulation and force entries of IWn over the word that its source writes (R131, R132). A word both forced and simulated keeps
the simulation's QUAL, which the spec leaves open (DESIGN CHOICE, log 42). -/
def overlay (s : State) (n : Nat) (w : ImgWord) : ImgWord :=
  let w := match simFor s n with | some f => ⟨f.data, tagSetQual w.tag f.qual ||| boolBit 3 true⟩ | none => w
  match forceFor s false n with | some f => ⟨f.data, w.tag ||| boolBit 2 true⟩ | none => w
def groupOf (s : State) (n : Nat) : BitVec 12 :=
  match routeOf s.run false n with | some r => r.group.setWidth 12 | none => 0

/-- An input word as the hub, the network engine or the host queue writes it: GROUP from the routing entry, AGE, HOLD and
GLIDE 0 (R129). -/
def inputWord (s : State) (n : Nat) (d : Word) (origin : BitVec 4) (q : BitVec 2) : ImgWord :=
  overlay s n ⟨d, mkTag origin (groupOf s n) 0 false false false false q⟩
/-- An input word from the Trelex queue: the tag as carried but for ORIGIN 5 and GROUP; bits [7:6] are 0 (R15, R130). -/
def partnerWord (s : State) (n : Nat) (d tag : Word) : ImgWord :=
  overlay s n ⟨d, (tagSetGroup (tagClean tag) (groupOf s n) &&& 0x0FFFFFFF) ||| 0x50000000⟩

/-- Refresh the mirrors of all reflex tasks after writes to the live input image (R71). -/
def refreshMirrors (s : State) : State :=
  taskIds.foldl (fun s t =>
    if (s.tcfg t).kind = 3 then s.modTask t (fun x => { x with mirror := mirrorWords s t }) else s) s

end Sys2Proof.Machine
end

