-- ==== Sys2Proof/Machine/Hub.lean ====
section
/-! DEFINITION. The channel hub (chapter 07): coupler slots, input words of the channels, link judgement, channel restart
(Table 2-25), reconnection after Dawn (R209), firmware slots (R354), the channel register block. -/

namespace Sys2Proof.Machine

/-! ### Channel restart -/

/-- Write an input word with QUAL BAD, data as given; not a refresh: AGE and the rest of the tag stay (R186). It is a write by
the word's source, so simulation and force entries act on it (R131, R132). -/
def markBad (n : Nat) (mask : Word) (s : State) : State :=
  if !routedIn s.run n then s
  else
    let w := s.iwGet n
    putIw n (overlay s n ⟨w.data &&& mask, tagSetQual w.tag qBad &&& 0xFFFFFFF3⟩) s

/-- The hub takes channel `c` out of service and sends STOP, then the record `r` (R53, Table 2-25). -/
def startChanRestart (c : Nat) (r : List Byte) (s : State) : State :=
  let s := s.modChan c (fun x => { x with restart := .stopping, newRec := r, chunk := 0 })
  let s := { s with img := { s.img with slotIn := s.img.slotIn.filter (fun e => e.1 / 2 != c) } }
  monitorBad c <| refreshMirrors (markBad (2 * c + 1) 0xFFFFFFFF (markBad (2 * c) 0xFFFFFFFF s))

/-- The record that the running image holds for a channel. -/
def imageRecord (s : State) (c : Nat) : List Byte := padTo 128 (s.run.channels.getD c [])

/-- A record that takes effect without a change of mode is applied at the next slot; a change of mode is a channel restart
(R45, R149). A channel without logic field supply gets it when its controller returns. -/
def newRecord (c : Nat) (s : State) : State :=
  let r := imageRecord s c
  let d := (s.chan c).die
  let x := s.chan c
  if d.record = r ∧ (x.newRec = [] ∨ x.newRec = r) then s
  else if x.restart = .none ∧ (recMode r ≠ d.mode ∨ d.record = []) then startChanRestart c r s
  else s.modChan c (fun x => if x.restart = .none then { x with newRec := r } else { x with restart := .stopping, newRec := r })

/-- How the restart of channel `c` goes on after an inbound field (Table 2-25). -/
def restartStep (c : Nat) (s : State) : State :=
  let x := s.chan c
  let put (y : ChanSt) := s.setChan c y
  match x.restart with
  | .none => s
  | .stopping => if x.state = 6 then put { x with restart := .config, chunk := 0 } else s
  | .config => s
  | .starting =>
    if x.state = 2 ∨ (x.state = 0 ∧ recMode x.newRec = 0) ∨ (x.state = 6 ∧ x.modeStat ≠ 0) then
      put { x with restart := .none, newRec := [] }
    else if x.state = 6 then put { x with restart := .config, chunk := 0 }
    else s

/-! ### Firmware slots (R354, R361) -/

def otherSlot (d : DieSt) : FwSlot := if d.slot1 then d.fw0 else d.fw1
def setOther (f : FwSlot) (d : DieSt) : DieSt := if d.slot1 then { d with fw0 := f } else { d with fw1 := f }
/-- The hub begins to program the slot of a die that is not running with a bank's CHANNEL part (R361). -/
def startFw (k : Bank) (switch hold : Bool) (c : Nat) (s : State) : State :=
  s.modChan c (fun x => { x with die := setOther {} { x.die with service := [] }, fw := some ⟨partOf k 4, k.chanVer, switch, hold⟩ })
/-- Service fields: 8 bytes of firmware go out in an even slot, the die acknowledges them in the odd one. With the last byte the
slot has its version, and a die that waits for it switches (R354). -/
def serviceSlot (odd : Bool) (x : ChanSt) : ChanSt :=
  match x.fw with
  | none => x
  | some j =>
    if !x.die.alive then x
    else if !odd then { x with fw := some { j with left := j.left.drop 8 }, die := { x.die with service := j.left.take 8 } }
    else
      let f := otherSlot x.die
      let d := setOther { f with code := f.code ++ x.die.service, ver := if j.left = [] then j.ver else 0 } { x.die with service := [] }
      if j.left ≠ [] then { x with die := d } else { x with fw := none, die := if j.switch then { d with slot1 := !d.slot1 } else d }
/-- Records wait until the die runs the right firmware. -/
def fwHolds (x : ChanSt) : Bool := x.fw.any (·.hold)

/-! ### Outbound -/

/-- The hub makes the channel glide whatever the image holds: no OE, not yet published since Dawn, recovery boot, or a
safety output while the safety subsystem does not run (R210, R246, R278, R381). -/
def hubGlides (s : State) (c : Nat) : Bool :=
  let m := (s.chan c).die.mode.toNat
  modeOut m && ((s.red.st != .single && !s.red.oe) || s.sup.phase != .run || !s.img.fresh.contains c
    || (m == 6 && s.safe.st != .run))

/-- The 8 record bytes of a chunk; chunk 16 is the CRC-32C. -/
def chunkField (r : List Byte) (k : Nat) : Word × Word :=
  if k < 16 then (fieldW r (8 * k), fieldW r (8 * k + 4)) else (crc32c r, 0)

/-- SAFE_FAIL: a SAFE_PM channel gets GLIDE = 1 and QUAL BAD whatever its word holds (R246). -/
def safeHalt (s : State) (c : Nat) : Bool := (s.chan c).die.mode == 6 && s.safe.st == .stop

/-- The field that channel `c` gets at this slot (Table 7-9). -/
def slotField (s : State) (c : Nat) : OutField :=
  let x := s.chan c
  let q := x.out.seq + 1
  let t : Half := BitVec.ofNat 16 s.tbrd
  match x.restart with
  | .none =>
    let w := s.qwGet c
    let tag := if hubGlides s c then tagSetGlide w.tag else w.tag
    ⟨.data, 0, q, t, w.data, if safeHalt s c then tagSetQual (tagSetGlide w.tag) qBad else tag, s.now⟩
  | .config =>
    if fwHolds x then ⟨.stop, 0, q, t, 0, 0, s.now⟩
    else let f := chunkField x.newRec x.chunk; ⟨.config, x.chunk, q, t, f.1, f.2, s.now⟩
  | _ => ⟨.stop, 0, q, t, 0, 0, s.now⟩

/-- One more slot without an inbound field: the input words of the channel age (R129). -/
def ageWord (n : Nat) (s : State) : State :=
  if routedIn s.run n then let w := s.iwGet n; putIw n { w with tag := tagOlder w.tag } s else s

/-- A record without a change of mode takes effect at this slot; the channel judges it as every record (R45, R149, R188). -/
def slotRecord (s : State) (c : Nat) : State :=
  let x := s.chan c
  if x.restart ≠ .none ∨ x.newRec = [] ∨ !x.die.alive ∨ fwHolds x then s
  else
    let crc := crc32c x.newRec
    let status := recordStatus s c x.newRec crc
    let s := s.setChan c { x with newRec := [] }
    if status ≠ 0 then
      diaryRaise 0x6003 (BitVec.ofNat 16 c) ([status.setWidth 8, recMode x.newRec, 0, 0] ++ wordBytes crc)
        (setDie c { x.die with modeStat := status } s)
    else setDie c { x.die with record := x.newRec, crc := crc, modeStat := 0 } s
/-- COUPLER_SLOT for one channel. -/
def slotChannel (s : State) (c : Nat) : State :=
  let f := slotField s c
  let s := slotRecord s c
  let x := serviceSlot (s.tbrd / 5 % 2 == 1) (s.chan c)
  let x := { x with
    out := f, silent := min (x.silent + 1) 9, heard := false
    restart := if f.kind = .config ∧ x.chunk = 16 then .starting else x.restart
    chunk := if f.kind = .config then x.chunk + 1 else x.chunk }
  let s := s.setChan c x
  if 2 ≤ x.silent then ageWord (2 * c + 1) (ageWord (2 * c) s) else s

/-- A local input word as the hub writes it: ORIGIN 0, HOLD and GLIDE 0 (Table 5-7). A routed local word whose entry names ENDPOINT
5 to 7 (R141) is written too, and its write is an arrival (DESIGN CHOICE, log 42). -/
def hubWord (n : Nat) (v : Word) (q : BitVec 2) (s : State) : State :=
  if routedIn s.run n then putIw n (inputWord s n v 0 q) s else s
/-- The edge at which the hub applies the local input words of a slot, all at once (R135). -/
def slotEdge (s : State) : State :=
  if s.img.slotIn = [] then s
  else
    let ws := s.img.slotIn
    let s := ws.foldl (fun s e => hubWord e.1 e.2.1 e.2.2 s) { s with img := { s.img with slotIn := [] } }
    refreshMirrors (noteTriggers (ws.map (·.1)) (emitRefresh 0 0 s))

/-- COUPLER_SLOT (R27, R45): every channel's outbound field is latched. What the slot before has brought is applied at the
latest now (R135). -/
def execCouplerSlot (s : State) : Out :=
  .next (if s.up then emitRefresh 0 0 (chanIds.foldl slotChannel (slotEdge s)) else s)

/-! ### Inbound -/

def setLink (c : Nat) (s : State) : State :=
  setIrq 5 (s.modChan c (fun x => { x with now := x.now ||| 1, diag := x.diag ||| 1 }))

/-- What the hub copies from a valid field. -/
def copyInbound (c : Nat) (free : Word) (s : State) : State :=
  s.modChan c (fun x =>
    let d := x.die
    let i := d.auxId.toNat
    let now := d.live &&& 0xFFE
    { x with
      silent := 0, lost := false, state := BitVec.ofNat 4 d.st.code, modeStat := d.modeStat, mode := d.mode
      now := now, diag := x.diag ||| now, spUa := appliedUa d
      aux := tset 0 x.aux i (dieAux free d i), die := { d with auxId := d.auxId + 1 } })

/-- The comparison of CH_CFG_CRC after Dawn, once both its items have come in whichever order, and a channel found in OFF (R209). -/
def crcCheck (c i : Nat) (s : State) : State :=
  let x := s.chan c
  if x.check = 1 ∧ (i = 3 ∨ i = 4) then s.setChan c { x with check := if i = 3 then 2 else 3 }
  else if (x.check = 2 ∧ i = 4) ∨ (x.check = 3 ∧ i = 3) then
    let s := s.setChan c { x with check := 0 }
    let crc : Word := atBit 16 (tget 0 x.aux 4) ||| (tget 0 x.aux 3).setWidth 32
    if crc ≠ crc32c (imageRecord s c) ∨ x.state = 0 then startChanRestart c (imageRecord s c) s else s
  else s

/-- Every channel whose controller runs has sent its field of this slot. -/
def slotHeard (s : State) : Bool := chanIds.all (fun c => (s.chan c).heard || !(s.chan c).die.alive)
/-- A field of channel `c` has come; with the last one of the slot its words are applied (R135). -/
def hear (c : Nat) (s : State) : State :=
  let s := s.modChan c (fun x => { x with heard := true })
  if slotHeard s then slotEdge s else s

/-- A valid inbound field of channel `c`: its words are kept for the slot's edge, unless a restart runs (R182, R184, R135,
Table 2-25). -/
def hubInbound (c : Nat) (s : State) : State :=
  let f := s.drawWord
  let s := f.2
  let d := (s.chan c).die
  let i := d.auxId.toNat
  let s := copyInbound c f.1 s
  let s := if (s.chan c).restart = .none then
      { s with img := { s.img with slotIn := s.img.slotIn.filter (fun e => e.1 / 2 != c)
          ++ [(2 * c, dieValue f.1 d, dieQual d), (2 * c + 1, dieStatus d, qGood)] } }
    else restartStep c s
  hear c (crcCheck c i s)

/-- An inbound field with a wrong CRC (R186). -/
def hubDiscard (c : Nat) (s : State) : State := hear c (setLink c (s.modChan c (fun x => { x with linkErr := satInc x.linkErr })))

/-- CHANNEL_LOST (R186): 8 slots. -/
def execChannelLost (c : ChanId) (s : State) : Out :=
  .next (
    if !s.up ∨ (s.chan c).silent < 8 ∨ (s.chan c).lost then s
    else setLink c (s.modChan c (fun x => { x with lost := true })))

/-! ### Controllers -/

/-- A controller that has just started: mode OFF, nothing stored but its firmware (R169). -/
def DieSt.blank (d : DieSt) : DieSt := { ({} : DieSt) with fw0 := d.fw0, fw1 := d.fw1, slot1 := d.slot1, auxId := d.auxId }
/-- CONTROLLER_STOP (R181, R30): the output is de-energised and the controller answers nothing. A die under programming is
programmed at its next start (R361). -/
def controllerStop (c : Nat) (s : State) : State :=
  let s := if (s.chan c).fw.any (fun j => !j.switch) then { s with upd := { s.upd with pend := s.upd.pend ||| BitVec.ofNat 48 (2 ^ c) } } else s
  s.modChan c (fun x => { x with die := { x.die.blank with powered := false }, fw := none })
def execControllerStop (c : ChanId) (s : State) : Out := .next (controllerStop c s)

/-- A die marked in UPD_CH_PEND is programmed at its next start, before its channel restart (R361). -/
def programPending (c : Nat) (s : State) : State :=
  if !s.upd.pend.getLsbD c then s
  else startFw (if s.upd.st = .prepared then inactiveBank s else runningBank s) false true c
    { s with upd := { s.upd with pend := s.upd.pend &&& ~~~BitVec.ofNat 48 (2 ^ c) } }

/-- The comparison of CH_FW with the CHANNEL part of the running bank (R354): where they differ the other slot is selected, or
programmed first and then selected; the front end holds the output and the profile goes on meanwhile. -/
def fwCompare (c : Nat) (s : State) : State :=
  let d := (s.chan c).die
  let k := runningBank s
  if !d.alive ∨ dieFw d = k.chanVer then s
  else if (otherSlot d).ver = k.chanVer then s.modChan c (fun x => { x with die := { d with slot1 := !d.slot1 }, fw := none })
  else startFw k true true c s

/-- CONTROLLER_RESTART (R181, R209, R354): after a loss of L+ the controller starts in OFF and the hub brings it back by a
channel restart; one whose clock alone had failed goes on as it stood (R29, R30, log 25). -/
def execControllerRestart (c : ChanId) (s : State) : Out :=
  .next (
    let d := (s.chan c).die
    if d.alive then s
    else if d.powered then s.modChan c (fun x => { x with die := { d with clkFail := false } })
    else
      let s := s.modChan c (fun x => { x with die := x.die.blank })
      if !s.up then s
      else
        let s := fwCompare c (programPending c s)
        if s.run.loaded then startChanRestart c (imageRecord s c) s else s)

/-- SLOT_SWITCH (R354). -/
def execSlotSwitch (c : ChanId) (s : State) : Out :=
  .next (if !s.up ∨ (s.chan c).fw.any (·.switch) then s else fwCompare c s)

/-! ### Register block (Table 7-11) -/

def chanReg (s : State) (c o : Nat) : Word :=
  let x := s.chan c
  let aux (i : Nat) : Word := (tget 0 x.aux i).setWidth 32
  if o < 0x80 then fieldW (if x.die.mode = 0 ∧ x.die.st = .off then [] else x.die.record) o
  else match o with
  | 0x80 => atBit 16 x.mode ||| atBit 8 x.modeStat ||| (if x.lost then 7 else atBit 0 x.state)
  | 0x84 => x.diag.setWidth 32
  | 0x88 => x.now.setWidth 32
  | 0x8C => aux 0
  | 0x90 => aux 1
  | 0x94 => aux 2
  | 0x98 => x.linkErr
  | 0x9C => atBit 16 (tget 0 x.aux 4) ||| aux 3
  | 0xA0 => aux 5
  | 0xC0 => aux 7
  | 0xC4 => aux 8
  | 0xC8 => aux 9
  | 0xCC => aux 10
  | 0xD0 => aux 11
  | 0xD4 => aux 12
  | 0xD8 => x.spUa.setWidth 32
  | 0xDC => aux 13
  | 0xE0 => aux 14
  | _ => 0

/-- CH_DIAG is W1C; a bit whose condition is present stays (R188). -/
def chanDiagWrite (c : Nat) (v : Word) (s : State) : State :=
  s.modChan c (fun x => { x with diag := (x.diag &&& ~~~(v.setWidth 12)) ||| x.now })

end Sys2Proof.Machine
end

