-- ==== Sys2Proof/Machine/Network.lean ====
section
/-! DEFINITION. The network engine (chapter 09): KRIO station cycles, ring redundancy, station loss and return, time
synchronisation, plant frames and the Modbus server. -/

namespace Sys2Proof.Machine

/-! ### Station records (Table 9-5) and ring settings (Table 9-4) -/

def stNumber (r : List Byte) : Nat := field r 0 1
def stEnabled (r : List Byte) : Bool := (fieldB r 1).getLsbD 0
def stSafe (r : List Byte) : Bool := (fieldB r 1).getLsbD 1
def stCycle (r : List Byte) : Nat := field r 4 4
def stPhase (r : List Byte) : Nat := field r 8 4
def stIn (r : List Byte) : Nat := field r 0x0E 1
def stOut (r : List Byte) : Nat := field r 0x0F 1
def stIwBase (r : List Byte) : Nat := field r 0x10 2
def stQwBase (r : List Byte) : Nat := field r 0x12 2
def stParam (r : List Byte) : Word := fieldW r 0x14
def stInputs (r : List Byte) : List Nat := (List.range (stIn r)).map (stIwBase r + ·)
def stOutputs (r : List Byte) : List Nat := (List.range (stOut r)).map (stQwBase r + ·)

def ringFlags (s : State) : Word := match s.run.ring with | some r => fieldW r 0 | none => 0
def ringRing (s : State) : Bool := (ringFlags s).getLsbD 0
def ringHsr (s : State) : Bool := (ringFlags s).getLsbD 1

def stn (s : State) (n : Nat) : StnSt := tget {} s.net.stns n
/-- The enabled record of a station in the running image. -/
def newStnRec (s : State) (n : Nat) : Option (List Byte) := s.run.stations.find? (fun r => stNumber r == n && stEnabled r)
/-- The enabled record in force: after an edit the one before it, until the station's first cycle (R149). -/
def stnRec (s : State) (n : Nat) : Option (List Byte) :=
  match (stn s n).old with
  | some r => r
  | none => newStnRec s n
def setStn (n : Nat) (x : StnSt) (s : State) : State := { s with net := { s.net with stns := tset {} s.net.stns n x } }

/-- The engine sends on the ring: settings present, not silenced, and outputs enabled (R228, R278). -/
def ringSends (s : State) : Bool :=
  s.running && s.net.ring != 0 && !s.net.silent && (s.red.st == .single || s.red.oe)

/-! ### The station cycle (R217–R227) -/

/-- The AGE of a station's input words counts one cycle (R219). -/
def ageStation (r : List Byte) (s : State) : State := (stInputs r).foldl (fun s n => ageWord n s) s

def stationDetail (x : StnSt) (s : State) : List Byte := halfBytes x.losses ++ [0, 0] ++ leBytes 8 s.tbrd

/-- STATION_LOST (R223). -/
def stationLost (n : Nat) (r : List Byte) (s : State) : State :=
  let x := stn s n
  let x := { x with st := .lost, losses := satInc x.losses, good := 0, held := [] }
  let s := setStn n x s
  let s := (stInputs r).foldl (fun s w => markBad w 0xFFFFFFFF s) s
  let s := refreshMirrors (emitRefresh 1 n s)
  deliverEvent (trigStation n) (diaryRaise 0x7001 (BitVec.ofNat 16 n) (stationDetail x s) s)

/-- The ending cycle is closed: without a valid INPUT it is a missed one. -/
def closeCycle (n : Nat) (r : List Byte) (s : State) : State :=
  let x := stn s n
  if !x.out then s
  else if x.answered then setStn n { x with missed := 0 } s
  else
    let s := emitRefresh 1 n (ageStation r (setStn n { x with missed := satInc x.missed, good := 0 } s))
    let x := stn s n
    if 3 ≤ x.missed.toNat ∧ (x.st = .running ∨ x.st = .hold ∨ x.st = .starting) then stationLost n r s else s

/-- R226: a held word whose owner has published an activation with a Roll Call at or after the return edge is released. -/
def released (s : State) (x : StnSt) (w : Nat) : Bool :=
  match routeOf s.run true w with
  | some r => (match (s.task r.owner.toNat).pubStamp with | some p => decide (x.retStamp ≤ p) | none => false)
  | none => true
def releaseWords (n : Nat) (s : State) : State :=
  let x := stn s n
  if x.st ≠ .hold then s
  else
    let held := x.held.filter (fun w => !released s x w)
    setStn n { x with held := held, st := if held = [] then .running else .hold } s

/-- An output word as the frame carries it: HOLD forced until released (R225), GLIDE until published since Dawn (R229). -/
def frameWord (s : State) (x : StnSt) (w : Nat) : List Byte :=
  let v := s.qwGet w
  let t := if x.held.contains w then v.tag ||| 0x10 else v.tag
  let t := if s.img.fresh.contains w then t else tagSetGlide t
  wordBytes v.data ++ wordBytes t

def stnCode : StnPhase → Nat
  | .none => 0 | .starting => 1 | .configuring => 2 | .running => 3 | .hold => 4 | .lost => 5
/-- KIND 2 of Table 11-16. -/
def stnState (x : StnSt) : List Byte := padTo 12 ([BitVec.ofNat 8 (stnCode x.st), BitVec.ofNat 8 x.missed.toNat] ++ halfBytes x.seq)
def stnDelta (n : Nat) (s : State) : State := addDelta [⟨2, BitVec.ofNat 16 n, stnState (stn s n)⟩] s

/-- The frame of the new cycle by the station's state (Table 9-7). -/
def buildFrame (n : Nat) (r : List Byte) (s : State) : State :=
  let x := stn s n
  let q := x.seq + 1
  let time : Word := BitVec.ofNat 32 s.tbrd
  let frame (ty : Byte) (t : Word) (body : List Byte) := krioFrame ty n q t (crc32c r) (stParam r) body
  let x := { x with seq := q, out := true, answered := false, both := s.net.ring == 3 || s.net.ring == 4 }
  match x.st with
  | .running => setStn n { x with frame := frame 1 time ((stOutputs r).flatMap (frameWord s x)) } s
  | .hold => setStn n { x with frame := frame 1 time ((stOutputs r).flatMap (frameWord s x)) } s
  | .configuring =>
    if x.cfgDue then setStn n { x with frame := frame 4 0 r, cfgDue := false } s
    else setStn n { x with frame := frame 3 time [] } s
  | .none => s
  | _ => setStn n { x with frame := frame 3 time [] } s

/-- A station at the start of its first contact: its frame numbers and its losses since Dawn go on (Tables 9-2, 9-11). -/
def freshStn (on : Bool) (x : StnSt) : StnSt :=
  { ({} : StnSt) with st := if on then .starting else .none, losses := x.losses, seq := x.seq }
/-- The record of an edit takes effect (R149); its station begins anew (log 14). -/
def takeRecord (n : Nat) (s : State) : State :=
  if (stn s n).old.isSome then setStn n (freshStn (newStnRec s n).isSome (stn s n)) s else s

/-- The record whose cycle starts count: after an edit that of the new generation (R149, log 14). -/
def cycleRec (s : State) (n : Nat) : Option (List Byte) := match newStnRec s n with | some r => some r | none => stnRec s n
/-- A cycle of the station starts now: at every TBRD that equals PHASE_US modulo CYCLE_US, once (R217). -/
def cycleDue (n : Nat) (s : State) : Bool :=
  match cycleRec s n with
  | some r => decide (s.tbrd % stCycle r = stPhase r) && (stn s n).cycleAt != some s.tbrd
  | none => false

/-- STATION_CYCLE_START (R217). -/
def execStationCycleStart (n : StnId) (s : State) : Out :=
  .next (
    if !ringSends s || !cycleDue n.val s then s
    else
      let s := takeRecord n.val (match stnRec s n.val with | some r => closeCycle n.val r s | none => s)
      match stnRec s n.val with
      | none => s
      | some r =>
        let s := stnDelta n.val (buildFrame n.val r (releaseWords n.val s))
        setStn n.val { (stn s n.val) with cycleAt := some s.tbrd } s)

/-- What Tables 9-2 and 9-3 give a frame of a station by its TYPE: INPUT or SAFE. -/
def krioTypeOk (r : List Byte) (bs : List Byte) : Bool :=
  let len := field bs 6 2
  match (fieldB bs 1).toNat with
  | 2 => decide (len = 8 * stIn r) && decide (field bs 3 1 < 16)
  | 7 => decide (1 ≤ len) && decide (len ≤ 256) && decide (field bs 3 1 = 0) && decide (field bs 8 4 = 0)
  | _ => false
/-- R213: why a received KRIO frame is discarded and counted. -/
def krioDiscard (s : State) (f : RingFrame) : Bool :=
  let bs := f.bytes
  let len := field bs 6 2
  match stnRec s (field bs 2 1) with
  | none => true
  | some r =>
    !f.fcsOk || fieldB bs 0 != 1 || decide (bs.length ≠ 0x18 + len)
      || fieldW bs (0x14 + len) != crc32c (bs.take (0x14 + len)) || !krioTypeOk r bs

/-- A frame arrives at a ring port. One with an IEEE 802.1Q tag is not accepted (R212); a supervision frame names its node to
an HSR node (R222); a KRIO frame that R213 discards is counted; what is left is a KRIO frame for `take`. -/
def ringArrive (f : RingFrame) (take : State → State) (s : State) : State :=
  if !s.up || f.tagged then s
  else match f.ether with
    | .supervision m =>
      if s.net.ring = 4 ∧ f.fcsOk then { s with net := { s.net with nodes := m :: s.net.nodes.filter (· != m) } } else s
    | .krio => if krioDiscard s f then { s with net := { s.net with krioDisc := satInc s.net.krioDisc } } else take s

/-- The words of a valid frame (R219): QUAL from the received tag, ORIGIN 1, AGE 0. -/
def stationWords (n : Nat) (r : List Byte) (bs : List Byte) (s : State) : State :=
  let ws := (List.range (stIn r)).map (fun i => (stIwBase r + i, fieldW bs (0x14 + 8 * i), (fieldW bs (0x18 + 8 * i)).setWidth 2))
  let s := ws.foldl (fun s w => putIw w.1 (inputWord s w.1 w.2.1 1 w.2.2) s) s
  refreshMirrors (noteTriggers (stInputs r) (emitRefresh 1 n s))

/-- STATION_RETURNED (R225). -/
def stationReturned (n : Nat) (r : List Byte) (bs : List Byte) (s : State) : State :=
  let s := stationWords n r bs s
  let x := { (stn s n) with st := .hold, held := stOutputs r, retStamp := s.stamp, good := 2 }
  deliverEvent (trigStation n) (diaryRaise 0x7002 (BitVec.ofNat 16 n) (stationDetail x s) (setStn n x s))

/-- A frame that passes R213 and answers this cycle. -/
def takeInput (n : Nat) (r : List Byte) (bs : List Byte) (s : State) : State :=
  let x := stn s n
  let remote : BitVec 4 := BitVec.ofNat 4 (field bs 3 1)
  let cfg := fieldW bs 0x0C
  let param := fieldW bs 0x10
  if remote = 0 ∨ cfg ≠ crc32c r then setStn n { x with st := .configuring, cfgDue := true, good := 0, held := [] } s
  else if param ≠ stParam r then
    let s := if x.mismatch then s else diaryRaise 0x7004 (BitVec.ofNat 16 n) (wordBytes param ++ wordBytes (stParam r)) s
    setStn n { x with mismatch := true, good := 0, st := if x.st = .starting then .configuring else x.st } s
  else
    let x := { x with mismatch := false, remote := remote, answered := true, missed := 0 }
    match x.st with
    | .running => stationWords n r bs (setStn n x s)
    | .hold => stationWords n r bs (setStn n x s)
    | .configuring => setStn n { x with st := .starting, good := 1, cfgDue := false } s
    | .none => s
    | _ => if 1 ≤ x.good then stationReturned n r bs (setStn n x s) else setStn n { x with good := 1 } s

/-- An INPUT frame that passes R213: late frames are counted, duplicates are not (R219, R221). A SAFE frame is
SHACIA_FRAME's. -/
def inputArrive (bs : List Byte) (late : Bool) (s : State) : State :=
  let n := field bs 2 1
  match stnRec s n with
  | none => s
  | some r =>
    let x := stn s n
    if fieldB bs 1 ≠ 2 then s
    else if late then { s with net := { s.net with late := satInc s.net.late } }
    else if !x.out ∨ x.answered ∨ fieldH bs 4 ≠ x.seq then s
    else takeInput n r bs s
/-- INPUT_FRAME (R213, R219, R221). -/
def execInputFrame (f : RingFrame) (late : Bool) (s : State) : Out := .next (ringArrive f (inputArrive f.bytes late) s)

/-! ### Ring redundancy (R221, R222) -/

/-- BEACON: 3 misses open the ring, 3 arrivals close it. The round trip is a measured value (log 12). -/
def execBeacon (arrived : Bool) (s : State) : Out :=
  .next (
    if !ringSends s ∨ !ringRing s ∨ ringHsr s then s
    else
    let s := { s with net := { s.net with sent := krioFrame 6 0 0 0 0 0 [] } }
    if arrived then
      let ok := min (s.net.beaconOk + 1) 3
      let s := { s with net := { s.net with beaconOk := ok, beaconMiss := 0, ring := if ok = 3 then 2 else s.net.ring } }
      let f := s.drawWord
      if s.net.ring = 2 then { f.2 with net := { f.2.net with rtt := f.1 } } else s
    else
      let miss := min (s.net.beaconMiss + 1) 3
      let s := { s with net := { s.net with beaconMiss := miss, beaconOk := 0 } }
      if miss = 3 ∧ s.net.ring = 2 then
        let b := satInc s.net.breaks
        diaryRaise 0x7003 noInst (wordBytes b) { s with net := { s.net with ring := 3, breaks := b, rtt := 0xFFFFFFFF } }
      else s)

/-- PORT_LINK_DOWN (R29): the link bit; nothing resets. -/
def execPortLinkDown (port : Fin 4) (s : State) : Out :=
  .next (if s.up then { s with net := { s.net with links := s.net.links &&& ~~~BitVec.ofNat 4 (2 ^ port.val) } } else s)
/-- PORT_LINK_UP (R212): a port that has negotiated anything but 1000BASE-T full duplex reports link down. -/
def execPortLinkUp (p : LinkUp) (s : State) : Out :=
  if p.gigFull then
    .next (if s.up then { s with net := { s.net with links := s.net.links ||| BitVec.ofNat 4 (2 ^ p.port.val) } } else s)
  else execPortLinkDown p.port s

/-- A supervision frame on both ports of an HSR node. The 2 s are IEC 62439-3's life check interval (PRESUMED, log 35). -/
def sendSupervision (s : State) : State :=
  if ringSends s && s.net.ring == 4 && s.now % 2000000000 == 0 then { s with net := { s.net with supSent := s.net.supSent + 1 } } else s

/-! ### Setting up -/

/-- RING_STATE of the image's settings; a ring starts CLOSED until beacons judge it (log 14). -/
def ringStart (s : State) : BitVec 4 :=
  if s.run.ring.isNone then 0 else if !ringRing s then 1 else if ringHsr s then 4 else 2

/-- RING_STATE goes on where the ring settings are as they were. -/
def setupRing (old : ImageCfg) (s : State) : State :=
  { s with net := { s.net with ring := if old.ring = s.run.ring ∧ s.net.ring ≠ 0 then s.net.ring else ringStart s } }
def enabledRec (c : ImageCfg) (n : Nat) : Option (List Byte) := c.stations.find? (fun r => stNumber r == n && stEnabled r)
/-- The stations of the running image (R229): enabled ones start in STARTING. A station whose record the image before it
held too goes on as it was (log 14). -/
def setupNetwork (old : ImageCfg) (s : State) : State :=
  (List.range 256).foldl (fun s n =>
    let r := newStnRec s n
    if enabledRec old n = r ∧ (r.isNone ∨ (stn s n).st ≠ .none) then s else setStn n (freshStn r.isSome (stn s n)) s) (setupRing old s)
/-- After an edit a changed record waits for its station's first cycle (R149). -/
def setupStations (old : ImageCfg) (s : State) : State :=
  (List.range 256).foldl (fun s n =>
    let was := enabledRec old n
    if was = newStnRec s n ∨ (stn s n).old.isSome then s else setStn n { (stn s n) with old := some was } s) (setupRing old s)

/-- P3, P4 and PRP settings as the parameter store holds them at Dawn (R232). -/
def setupPlant (s : State) : State :=
  let prp := (setting s 0x12).getD []
  let on := prp.getD 0 0 == 1
  { s with net := { s.net with
      prp := on
      p3 := if on then prp.drop 1 else (setting s 0x10).getD [], p4 := if on then prp.drop 1 else (setting s 0x11).getD [] } }

/-! ### Ring load (R216) -/

def wireBytes (hsr : Bool) (words : Nat) : Nat := max 84 (62 + 8 * words) + (if hsr then 6 else 0)
/-- Sum of fractions, as numerator and denominator. -/
def addFrac (a : Nat × Nat) (n d : Nat) : Nat × Nat :=
  let l := Nat.lcm a.2 d
  if d = 0 then a else (a.1 * (l / a.2) + n * (l / d), l)
/-- U in bytes per µs; `period` gives the period of the safety task that serves a safe station. -/
def ringLoad (stations : List (List Byte)) (hsr : Bool) (period : Nat → Nat) : Nat × Nat :=
  stations.foldl (fun u r =>
    let u := if stEnabled r then addFrac u (wireBytes hsr (stOut r) + wireBytes hsr (stIn r)) (stCycle r) else u
    if stSafe r then addFrac u (2 * (314 + (if hsr then 6 else 0))) (period (stNumber r)) else u) (0, 1)

/-! ### Time (R230, R231) -/

/-- PTP_DOMAIN of the ring settings (Table 9-4). -/
def ptpDomain (s : State) : Byte := match s.run.ring with | some r => fieldB r 6 | none => 0

/-- PTP_SYNC (R230): a Sync message of PTP_DOMAIN and its Follow_Up with the module timebase at which the Sync went out. -/
def execPtpSync (s : State) : Out :=
  .next (
    if ringSends s then
      let m : PtpSent := ⟨ptpDomain s, BitVec.ofNat 16 s.net.syncs, s.now⟩
      { s with net := { s.net with syncs := s.net.syncs + 1, sync := some { m with ns := 0 }, followUp := some m } }
    else s)

/-- A station's message: a delay request of the domain is answered with the time of its arrival; every other one is ignored
(R230; DEDUCED, log 13). -/
def ringPtp (m : PtpMsg) (s : State) : State :=
  if ringSends s && m.delayReq && m.domain == ptpDomain s then
    { s with net := { s.net with delayResp := some ⟨m.domain, m.seq, s.now⟩ } }
  else s

/-- PTP_MESSAGE: what the ordinary clock makes of a message on P3 or P4 is IEEE 1588's; state, lock, offset and, unless PPS_IN
disciplines it, the plant-side clock become free values (log 13). -/
def execPtpMessage (port : PtpPort) (m : PtpMsg) (s : State) : Out :=
  .next (
    if !s.running then s
    else if port = .ring then ringPtp m s
    else
      let a := s.drawWord
      let b := a.2.drawWord
      let c := b.2.drawWord
      let d := c.2.drawWord
      let e := d.2.drawBool
      let s := e.2
      { s with net := { s.net with
          ptpState := a.1.setWidth 4, ptpOffset := b.1, ptpLocked := e.1
          plantNs := if s.net.ppsUse then s.net.plantNs
            else (c.1.toNat + 2 ^ 32 * (a.1 >>> 16).toNat) * 1000000000 + d.1.toNat % 1000000000 } })

/-- PPS_IN, when enabled: the clock takes its nearest whole second. -/
def execPpsIn (s : State) : Out :=
  .next (if s.running ∧ ppsInEnabled s then
    { s with net := { s.net with ppsUse := true, plantNs := (s.net.plantNs + 500000000) / 1000000000 * 1000000000 } } else s)

/-- A whole second of the plant-side clock that no pulse has marked. -/
def ppsDue (s : State) : Bool :=
  s.up && decide (s.net.plantNs % 1000000000 = 0) && s.net.ppsAt != some (s.net.plantNs / 1000000000)
/-- PPS_OUT (R231). -/
def execPpsOut (s : State) : Out :=
  .next (if ppsDue s then
    { s with net := { s.net with ppsOut := s.net.ppsOut + 1, ppsAt := some (s.net.plantNs / 1000000000) } } else s)

/-! ### Plant frames (R232, R233) -/

/-- An IPv4 address as bytes in network order. -/
def ipBytes (w : Word) : List Byte := (wordBytes w).reverse
def ownAddress (s : State) (p4 : Bool) : List Byte := ((if p4 then s.net.p4 else s.net.p3).take 4)
def plantDiscard (s : State) : State := { s with net := { s.net with plantDisc := satInc s.net.plantDisc } }

/-- A PRP node has one MAC address on both LANs (R232). -/
def ownMac (s : State) (p4 : Bool) : List Byte := Config.macAddress (p4 && !s.net.prp)

/-- When the port accepted its frames of the last 1 ms, newest first. -/
def plantRecent (s : State) (p4 : Bool) : List Nat :=
  (if p4 then s.net.rate4 else s.net.rate3).filter (fun t => decide (s.now < t + 1000000))
/-- 20,000 frames per second are 20 in 1 ms (R233). -/
def plantRoom (s : State) (p4 : Bool) : Bool := decide ((plantRecent s p4).length < 20)
def plantTaken (p4 : Bool) (s : State) : State :=
  let l := s.now :: plantRecent s p4
  { s with net := if p4 then { s.net with rate4 := l } else { s.net with rate3 := l } }
/-- The module takes the frame: no IEEE 802.1Q tag (R212), no duplicate of a PRP frame (R232). -/
def plantTakes (rx : PlantRx) (s : State) : Bool := s.up && !rx.tagged && !(s.net.prp && rx.dup)
/-- A frame for a service, within the port's rate (R233). -/
def plantLimit (p4 : Bool) (f : State → State) (s : State) : State :=
  if plantRoom s p4 then f (plantTaken p4 s) else plantDiscard s
def plantArrive (rx : PlantRx) (f : State → State) (s : State) : State := if plantTakes rx s then plantLimit rx.port4 f s else s

/-- PLANT_FRAME (R233): it addresses no service, or it is beyond the rate. -/
def execPlantFrame (rx : PlantRx) (s : State) : Out := .next (if plantTakes rx s then plantDiscard s else s)
/-- The answer goes out where the request came in. -/
def plantReply (p4 : Bool) (target : Word) (bytes : List Byte) (s : State) : State :=
  if ipBytes target ≠ ownAddress s p4 then plantDiscard s else { s with net := { s.net with reply := some (p4, bytes) } }
/-- ARP: the answer names this port's MAC and IPv4 address. -/
def execArp (rx : PlantRx) (target sender : Word) (s : State) : Out :=
  .next (plantArrive rx
    (fun s => plantReply rx.port4 target ([0, 1, 8, 0, 6, 4, 0, 2] ++ ownMac s rx.port4 ++ ipBytes target ++ ipBytes sender) s) s)
/-- ICMP_ECHO: the payload comes back. -/
def execIcmpEcho (rx : PlantRx) (target sender : Word) (payload : List Byte) (s : State) : Out :=
  .next (plantArrive rx (fun s => plantReply rx.port4 target (ipBytes target ++ ipBytes sender ++ [0, 0] ++ payload) s) s)

/-! ### Modbus TCP (R241, R242, R398) -/

def conn (s : State) (i : Nat) : MbConn := tget {} s.net.conns i
def setConn (i : Nat) (x : MbConn) (s : State) : State := { s with net := { s.net with conns := tset {} s.net.conns i x } }
/-- The connection takes a request when open and with none in progress (Table 9-8). -/
def connReady (s : State) (i : Nat) : Bool := s.running && (conn s i).opened && !(conn s i).wait

/-- A request counts as one frame of its port (R233, log 15). -/
def mbArrive (q : MbRx) (f : State → State) (s : State) : State :=
  let c := q.c.val
  if connReady s c then plantLimit q.port4 (fun s => f (setConn c { (conn s c) with lastNs := s.now } s)) s else s

/-- MODBUS_CONNECT: the ninth connection is refused. The frames that opened it are not counted again here (log 15). -/
def execModbusConnect (s : State) : Out :=
  .next (
    if !s.running then s
    else match (List.range 8).find? (fun i => !(conn s i).opened) with
      | some i => setConn i { opened := true, lastNs := s.now } s
      | none => s)
/-- MODBUS_IDLE (R398): 60 s without a request. -/
def execModbusIdle (c : Fin 8) (s : State) : Out :=
  .next (if s.running && decide ((conn s c.val).lastNs + 60000000000 ≤ s.now) then setConn c.val {} s else s)

def mbServed (c : Nat) (resp : List Byte) (s : State) : State :=
  let s := setConn c { (conn s c) with resp := resp, wait := false } s
  { s with net := { s.net with mbReq := s.net.mbReq + 1 } }
def mbException (c : Nat) (fc code : Byte) (s : State) : State :=
  let s := setConn c { (conn s c) with resp := [fc ||| 0x80, code], wait := false } s
  { s with net := { s.net with mbRefused := satInc s.net.mbRefused } }

/-- Register `r` of a unit space (R241). -/
def mbRegister (s : State) (unit : Byte) (r : Nat) : Half :=
  let w : Word := match unit.toNat with
    | 1 => (s.iwGet (r / 2)).data
    | 2 => (s.qwGet (r / 2)).data
    | 3 => (s.iwGet (r / 2)).tag
    | _ => (s.qwGet (r / 2)).tag
  if r % 2 = 0 then w.setWidth 16 else (w >>> 16).setWidth 16
/-- A register on the wire: high byte first. -/
def beBytes (h : Half) : List Byte := (halfBytes h).reverse

/-- A read of registers: one snapshot. A quantity outside 1–125 is answered with exception 0x03 (log 15). -/
def mbRead (c : Nat) (fc unit : Byte) (start qty : Half) (s : State) : State :=
  if !(inRange' 1 4 unit.toNat) then mbException c fc 2 s
  else if !(inRange' 1 125 qty.toNat) then mbException c fc 3 s
  else if 65536 < start.toNat + qty.toNat then mbException c fc 2 s
  else
    let regs := (List.range qty.toNat).flatMap (fun i => beBytes (mbRegister s unit (start.toNat + i)))
    mbServed c ([fc, BitVec.ofNat 8 (2 * qty.toNat)] ++ regs) s
where inRange' (lo hi v : Nat) : Bool := decide (lo ≤ v) && decide (v ≤ hi)

/-- READ_REGISTERS_03. -/
def execReadRegisters03 (q : MbRx) (unit : Byte) (start qty : Half) (s : State) : Out :=
  .next (mbArrive q (mbRead q.c.val 3 unit start qty) s)
/-- READ_REGISTERS_04. -/
def execReadRegisters04 (q : MbRx) (unit : Byte) (start qty : Half) (s : State) : Out :=
  .next (mbArrive q (mbRead q.c.val 4 unit start qty) s)

/-- The words that a write covers. -/
def mbWords (start qty : Half) (regs : List Half) : List WordEntry :=
  (List.range (qty.toNat / 2)).map (fun i =>
    ⟨start.toNat / 2 + i, atBit 16 (regs.getD (2 * i + 1) 0) ||| (regs.getD (2 * i) 0).setWidth 32, 0⟩)

/-- WRITE_MULTIPLE_REGISTERS (R242): the response follows the batch. -/
def execWriteMultipleRegisters (q : MbRx) (unit : Byte) (start qty : Half) (regs : List Half) (s : State) : Out :=
  .next (mbArrive q (fun s =>
    let es := mbWords start qty regs
    if unit ≠ 1 ∨ start.toNat % 2 ≠ 0 ∨ qty.toNat % 2 ≠ 0 ∨ 122 < qty.toNat ∨ qty = 0
      ∨ es.any (fun e => match routeOf s.run false e.num with | some r => r.endpoint != 7 | none => true) then mbException q.c.val 0x10 2 s
    else
      let s := setConn q.c.val { (conn s q.c.val) with wait := true, start := start, qty := qty } s
      pushHost ⟨7, .modbus q.c.val, es⟩ s) s)

/-- READ_DEVICE_IDENTIFICATION: the basic objects; their texts are the model's (log 15). -/
def execReadDeviceIdentification (q : MbRx) (s : State) : Out :=
  .next (mbArrive q (fun s =>
      let obj (id : Byte) (t : List Byte) : List Byte := [id, BitVec.ofNat 8 t.length] ++ t
      let vendor : List Byte := [0x4F, 0x63, 0x6F, 0x69, 0x70, 0x65, 0x6C]
      let product : List Byte := [0x4B, 0x56, 0x2D, 0x34, 0x38, 0x31, 0x36]
      mbServed q.c.val ([0x2B, 0x0E, 1, 1, 0, 0, 3] ++ obj 0 vendor ++ obj 1 product
        ++ obj 2 (wordBytes (mfVersion (runningBank s).manifest))) s) s)

/-- MODBUS_UNKNOWN_FUNCTION. -/
def execModbusUnknownFunction (q : MbRx) (fc : Byte) (s : State) : Out :=
  .next (mbArrive q (mbException q.c.val fc 1) s)

/-! ### Registers (Tables 9-9 to 9-11) -/

def stationReg (s : State) (n : Nat) : Word :=
  let x := stn s n
  natAt 28 (stnCode x.st) ||| atBit 24 x.remote ||| boolBit 23 x.mismatch ||| atBit 16 x.missed ||| atBit 0 x.losses

end Sys2Proof.Machine
end

