-- ==== Sys2Proof/Machine/SafeUnit.lean ====
section
/-! DEFINITION. The safety subsystem (chapter 10): SAFE_STOP, safety runs, antivalent pairs, Shacia connections, the parameter
set, the change log, the status block. -/

namespace Sys2Proof.Machine

/-! ### The parameter set (Tables 10-6 to 10-8, 10-13) -/

def spVersion (p : List Byte) : Word := fieldW p 4
def spSafeId (p : List Byte) : Word := fieldW p 8
def spPairCount (p : List Byte) : Nat := field p 0x10 1
def spConnCount (p : List Byte) : Nat := field p 0x11 1
def spTaskEntry (p : List Byte) (i : Nat) : List Byte := (p.drop (0x20 + 16 * i)).take 16
def spPairEntry (p : List Byte) (i : Nat) : List Byte := (p.drop (0x60 + 8 * i)).take 8
def spConnEntry (p : List Byte) (i : Nat) : List Byte := (p.drop (0x60 + 8 * spPairCount p + 32 * i)).take 32
def spPairEntries (p : List Byte) : List (List Byte) := (List.range (spPairCount p)).map (spPairEntry p)
def spConnEntries (p : List Byte) : List (List Byte) := (List.range (spConnCount p)).map (spConnEntry p)
/-- ENTRY and SAFE_WD_US of a safety task. -/
def spTaskOf (p : List Byte) (t : Nat) : Option (List Byte) :=
  ((List.range 4).map (spTaskEntry p)).find? (fun e => field e 0 1 == t)
def safeParams (img : ImageCfg) : List Byte := match img.safety with | some g => g.params | none => []

def connOf (s : State) (c : Nat) : SafeConn := tget {} s.safe.conns c
def setSafeConn (c : Nat) (x : SafeConn) (s : State) : State := { s with safe := { s.safe with conns := tset {} s.safe.conns c x } }

/-- A pair at a start of the subsystem (R258). -/
def freshPair (e : List Byte) : SafePair :=
  let ack := (fieldB e 1).getLsbD 0
  { used := true, task := field e 4 1, tMs := field e 2 2, st := if ack then .fault else .starting }
/-- PATH of a connection: UDP. -/
def connUdp (e : List Byte) : Bool := field e 3 1 == 1
/-- A connection at a start. DISCARDS counts since Dawn. -/
def freshConn (e : List Byte) (disc : Half) : SafeConn :=
  { used := true, task := field e 0x10 1, id := field e 0 2, resp := field e 2 1 == 1, udp := connUdp e
    peer := field e 4 4, key := fieldW e 8, wdMs := field e 0x0C 2, txN := field e 0x0E 1, rxN := field e 0x0F 1
    ackReq := (fieldB e 0x11).getLsbD 0, peerId := fieldW e 0x12, st := .starting, disc := disc }

/-- Every pair and connection of the running set starts; SAFE_OUT is cleared (R253, R258). -/
def startPairs (s : State) : State :=
  let p := safeParams s.run
  let pairs := (spPairEntries p).foldl (fun t e =>
    tset {} t (field e 0 1) { freshPair e with lastMs := (tget {} s.safe.pairs (field e 0 1)).lastMs }) []
  let conns := (List.range (spConnCount p)).foldl (fun t i =>
    tset {} t i (freshConn (spConnEntry p i) (tget {} s.safe.conns i).disc)) []
  { s with safe := { s.safe with pairs := pairs, conns := conns, safeIn := [], safeOut := [], inbox := [] } }

/-- The exit edge of a delta with section 0x0C (R267): a pair or connection whose entry changed restarts, its SAFE_OUT bytes 0
(R253), its DISCARDS kept; the rest go on. -/
def mergePairs (old : ImageCfg) (s : State) : State :=
  let p := safeParams s.run
  let q := safeParams old
  let keptPair (e : List Byte) : Bool := (spPairEntries q).contains e
  let oldConn (i : Nat) : Option Nat := (List.range (spConnCount q)).find? (fun j => spConnEntry q j == spConnEntry p i)
  let pairs := (spPairEntries p).foldl (fun t e =>
    tset {} t (field e 0 1) (if keptPair e then pairOf s (field e 0 1) else freshPair e)) []
  let conns := (List.range (spConnCount p)).foldl (fun t i =>
    tset {} t i (match oldConn i with | some j => connOf s j | none => freshConn (spConnEntry p i) (connOf s i).disc)) []
  let area (m : Memory) (dst from_ n : Nat) : Memory := writeBytes m dst (readBytes s.safe.safeOut from_ n)
  let out := (spPairEntries p).foldl (fun m e =>
    if keptPair e then area m (4 * field e 0 1) (4 * field e 0 1) 4 else m) []
  let out := (List.range (spConnCount p)).foldl (fun m i => match oldConn i with
    | some j => area m (0x400 + 0x100 * i) (0x400 + 0x100 * j) 0x100
    | none => m) out
  { s with safe := { s.safe with pairs := pairs, conns := conns, safeOut := out } }

/-! ### SAFE_STATUS and SAFE_STOP (R246) -/

def SafePhase.code : SafePhase → Nat
  | .off => 0 | .selftest => 1 | .run => 2 | .stop => 3 | .loading => 4

/-- Change SAFE_STATUS.STATE; the SAFETY interrupt reports it (Table 16-15). -/
def setSafe (p : SafePhase) (s : State) : State :=
  if s.safe.st = p then s else setIrq 4 { s with safe := { s.safe with st := p } }

/-- The tasks of KIND 4. -/
def safetyTasks (s : State) : List Nat := taskIds.filter (fun t => (s.tcfg t).kind == 4)

/-- SAFE_STOP: SA and SB halt, every safety task stops with cause 2, the record is raised (R246). -/
def safeStop (cause : BitVec 4) (pc : Word) (s : State) : State :=
  if s.safe.st = .off ∨ s.safe.st = .stop then s
  else
    let s := setSafe .stop { s with safe := { s.safe with cause := cause, failPc := pc } }
    let s := s.modEngine safeEng (fun x => { x with run := .free })
    let s := diaryRaise 0x8001 noInst ([cause.setWidth 8, 0, 0, 0] ++ wordBytes pc) s
    let s := (safetyTasks s).foldl (fun s t => stopNow t 2 s) s
    healthRequest soSafe s

/-- PC of SA. -/
def safePc (s : State) : Word := (s.engine safeEng).pc.setWidth 32

/-- SA's value on a lane of the comparator (R245), zero-extended. SB holds its complement, so it is stored once (log 40). -/
def saValue (s : State) : CompareLane → Dword
  | .pc => pcOf s 24
  | .result r => wGet s 24 r
  | .address a => zext64 a
  | .data a => BitVec.ofNat 64 (ofLe (memRead s 24 a 8))
  | .image out n => zext64 (if out then s.qwGet n else s.iwGet n).data
  | .frame c i => zext64 ((connOf s c).frame.getD i 0)
/-- The comparator: SA's value against the complement of SB's (R245). -/
def comparatorMatches (s : State) (lane : CompareLane) (sb : Dword) : Bool := saValue s lane == ~~~sb

/-- The run in progress has reached SAFE_WD_US (R251). -/
def safeWdDue (s : State) : Bool :=
  match (s.engine safeEng).run with
  | .lesson t _ => (match spTaskOf (safeParams s.run) t.val with
    | some e => decide (field e 8 4 * 1000 ≤ s.now - s.safe.runStart)
    | none => false)
  | _ => false

/-- The cause that a detector gives, where what it has read is one (R246); a self-test in progress ends with SAFETY_SELFTEST. -/
def safeCause (s : State) (seen : Dword) : SafeCause → Option (BitVec 4)
  | .mismatch lane => if comparatorMatches s lane seen then none else some 1
  | .ecc => some 2
  | .clock => if 10000 < seen.toNat then some 3 else none
  | .watchdog => if safeWdDue s then some 4 else none
  | .selftest => if s.safe.st = .selftest then none else some 5

/-- SAFE_STOP. -/
def execSafeStop (cause : SafeCause) (seen : Dword) (s : State) : Out :=
  .next (if s.up then (match safeCause s seen cause with | some c => safeStop c (safePc s) s | none => s) else s)
/-- SAFE_CLOCK_CHECK (R246): more than 1 %. -/
def execSafeClockCheck (devPpm : Nat) (s : State) : Out :=
  .next (if s.up ∧ 10000 < devPpm then safeStop 3 (safePc s) s else s)
/-- SPARE_LANE_TEST (R248). -/
def execSpareLaneTest (detected : Bool) (s : State) : Out :=
  .next (if s.safe.st = .run ∧ !detected then safeStop 5 (safePc s) s else s)
/-- SAFE_WATCHDOG. -/
def execSafeWatchdog (s : State) : Out := .next (if safeWdDue s then safeStop 4 (safePc s) s else s)

/-- The subsystem runs: pairs and connections start (R258). -/
def safeEnter (s : State) : State :=
  let s := startPairs { s with safe := { s.safe with cause := 0 } }
  setSafe (if s.run.safety.isSome then .run else .off) s
/-- A self-test has passed: the safety timebase starts at 0 (Table 10-1). -/
def safeTested (s : State) : State := { s with safe := { s.safe with tbBase := s.now } }

/-- A failed self-test: SAFE_STOP with cause 5 (R248). -/
def safeSelftestFail (s : State) : State := safeStop 5 (safePc s) (if s.safe.st = .off then setSafe .selftest s else s)

/-! ### Pair monitor (R255–R258) -/

/-- The monitor's view of channel `c` after a field, and the stamp of what changed. The first field after a start of the pair
has no slot before it to count edges from. -/
def monitorView (s : State) (c : Nat) (old : PairCh) : PairCh × Nat :=
  let d := (s.chan c).die
  let now := s.tbrd
  let delta := if old.seen then (d.edgeCount - old.edges).toNat else 0
  let unfit := !(dieStatus d).getLsbD 0 || dieQual d == qBad || (s.chan c).restart != .none || decide (2 ≤ delta)
  let stamp := if 2 ≤ delta then old.at_ else if delta = 1 ∧ !unfit ∧ !old.unfit then edgeTime now d.lastEdge else now
  (⟨(dieValue 0 d).getLsbD 0, d.edgeCount, unfit, now, true⟩, stamp)

/-- A valid field of channel `c` has come; `missed` says that a slot before it brought none. -/
def monitorField (c : Nat) (missed : Bool) (s : State) : State :=
  let p := pairOf s (c / 2)
  if !p.used || s.safe.st != .run then s
  else
    let v := monitorView s c (if c % 2 = 0 then p.nc else p.no)
    let p := if c % 2 = 0 then { p with nc := v.1 } else { p with no := v.1 }
    let both := decide ((s.chan (c / 2 * 2)).silent = 0) && decide ((s.chan (c / 2 * 2 + 1)).silent = 0)
    let slots := if missed then 0 else p.slots
    let p := { p with slots := min 10 (if both then slots + 1 else slots) }
    setPair (c / 2) (pairStart s.tbrd (pairJudge v.2 p)) s

/-- INBOUND_FIELD (R182, R186): words, link judgement and the pair monitor. -/
def execInboundField (c : ChanId) (ok : Bool) (s : State) : Out :=
  .next (
    if !s.up ∨ !(s.chan c).die.alive then s
    else if ok then monitorField c.val (decide (2 ≤ (s.chan c).silent)) (hubInbound c.val s)
    else hubDiscard c.val s)

/-- CHANNEL_BAD (R186): 4 slots without a valid inbound field. -/
def execChannelBad (c : ChanId) (s : State) : Out :=
  .next (
    if !s.up ∨ (s.chan c).silent < 4 then s
    else
      let s := markBad (2 * c.val + 1) 0xFFFFFFFE (markBad (2 * c.val) 0xFFFFFFFF s)
      monitorBad c.val (refreshMirrors (emitRefresh 0 0 s)))

/-- FILTER_US of the pair's channels. -/
def pairFilterUs (s : State) (k : Nat) : Nat := field (s.chan (2 * k)).die.record 4 4

/-- DISCREPANCY_FAULT (R256): the disagreement has lasted T, and no edge stamped within T can still arrive. -/
def execDiscrepancyFault (k : Fin 24) (s : State) : Out :=
  .next (
    let p := pairOf s k.val
    match p.st, p.since with
    | .discrepant, some b =>
      if s.safe.st = .run ∧ b + p.tMs * 1000 + pairFilterUs s k.val ≤ s.tbrd then
        setPair k.val { p with st := .fault, safe := false } s
      else s
    | _, _ => s)

/-! ### Shacia frames (R262–R265) -/

/-- SCRC: reflected polynomial 0xF4AC_FB13 (R262). -/
def scrc (bs : List Byte) : Word := bs.foldl (crcByte 0xC8DF352F#32) 0xFFFFFFFF#32 ^^^ 0xFFFFFFFF#32

/-- The safety timebase in µs since the last self-test (Table 10-1). -/
def safeUs (s : State) : Nat := (s.now - s.safe.tbBase) / 1000

def shaciaBytes (key : Word) (flags : Byte) (id seq echo : Nat) (sender : Word) (ws : List Word) : List Byte :=
  let b := [1, flags] ++ leBytes 2 id ++ leBytes 2 seq ++ leBytes 2 echo ++ wordBytes sender
    ++ [BitVec.ofNat 8 ws.length, 0, 0, 0] ++ ws.flatMap (fun w => wordBytes w ++ wordBytes (~~~w))
  b ++ wordBytes (scrc (wordBytes key ++ b))

def ConnPhase.code : ConnPhase → Nat
  | .unused => 0 | .starting => 1 | .run => 2 | .timeout => 3 | .ackWait => 4

/-- Age of the connection's data in µs (R264). -/
def connAge (s : State) (c : SafeConn) : Nat := match c.echoAt with | some t => safeUs s - t | none => 0xFFFFFFFF
/-- At or above CONN_WD_MS the connection is in TIMEOUT (R264). -/
def connNow (s : State) (c : SafeConn) : SafeConn :=
  if (c.st = .run ∨ c.st = .ackWait) ∧ c.wdMs * 1000 ≤ connAge s c then { c with st := .timeout } else c
/-- SAFE_CONN (Table 10-11). -/
def connWord (c : SafeConn) : Word := natAt 28 c.st.code ||| atBit 0 c.disc

/-- Change of a connection or frame sent that the next DELTA record carries (R266, Table 11-16). -/
def connDelta (c : Nat) (x : SafeConn) : DeltaEntry :=
  ⟨3, BitVec.ofNat 16 c, [BitVec.ofNat 8 x.st.code, 0] ++ leBytes 2 x.txSeq ++ leBytes 2 x.rxSeq ++ [0, 0, 0, 0, 0, 0]⟩
def sentDelta (c seq us : Nat) : DeltaEntry := ⟨4, BitVec.ofNat 16 c, leBytes 2 seq ++ [0, 0] ++ leBytes 8 us⟩

/-- Nothing is sent in SAFE_STOP, while the task is stopped, or without OE in a pair (R265, R278). -/
def connSends (s : State) (x : SafeConn) : Bool :=
  x.used && s.safe.st == .run && (s.task x.task).st != .stopped && (s.task x.task).st != .fault
    && (s.red.st == .single || s.red.oe)

/-- Send the connection's next frame from the values of the latest Publish (R265). A ring connection's frame goes on the ring
while the network engine sends there (R228). -/
def sendConn (c : Nat) (s : State) : State :=
  let x := connOf s c
  if !connSends s x then s
  else
    let q := x.txSeq % 65535 + 1
    let flags : Byte := BitVec.ofNat 8 (x.resp.toNat + 2 * x.fs.toNat)
    let ws := (List.range x.txN).map (fun w => x.tx.getD w 0)
    let x := { x with
      txSeq := q, sent := ((q, safeUs s) :: x.sent).take 16
      frame := shaciaBytes x.key flags x.id q x.rxSeq (spSafeId (safeParams s.run)) ws }
    let x := { x with wire := if x.udp ∨ !ringSends s then [] else krioFrame 7 x.peer (stn s x.peer).seq 0 0 0 x.frame }
    addDelta [connDelta c x, sentDelta c q (safeUs s)] (setSafeConn c x s)

/-- The connection that CONN_ID names, and whether the frame came on its path from its peer (R263). -/
def connByPeer (s : State) (udp : Bool) (peer : Word) (id : Nat) : Option Nat :=
  (List.range 64).find? (fun c => let x := connOf s c
    x.used && x.id == id && x.udp == udp && decide (x.peer = peer.toNat))
def connById (s : State) (id : Nat) : Option Nat := (List.range 64).find? (fun c => (connOf s c).used && (connOf s c).id == id)

/-- Check 1 of R263. -/
def shaciaForm (bs : List Byte) : Bool :=
  let n := field bs 0x0C 1
  decide (20 ≤ bs.length) && decide (bs.length ≤ 252) && decide (bs.length = 20 + 8 * n) && fieldB bs 0 == 1
    && fieldB bs 1 &&& 0xFC == 0 && field bs 0x0D 3 == 0
def shaciaWords (bs : List Byte) : List Word := (List.range (field bs 0x0C 1)).map (fun w => fieldW bs (0x10 + 8 * w))
/-- Checks 3 to 8 of R263 for connection `x`. -/
def shaciaOk (s : State) (x : SafeConn) (bs : List Byte) : Bool :=
  let n := field bs 0x0C 1
  let q := field bs 4 2
  decide (fieldW bs (0x10 + 8 * n) = scrc (wordBytes x.key ++ bs.take (0x10 + 8 * n)))
    && (List.range n).all (fun w => fieldW bs (0x14 + 8 * w) == ~~~fieldW bs (0x10 + 8 * w))
    && (fieldB bs 1).getLsbD 0 == !x.resp && fieldW bs 8 == x.peerId
    && (x.st == .starting || (q != 0 && decide (1 ≤ (q + 65536 - x.rxSeq) % 65536) && decide ((q + 65536 - x.rxSeq) % 65536 ≤ 32767)))
    && x.sent.any (fun e => e.1 == field bs 6 2 && decide (safeUs s - e.2 < x.wdMs * 1000))
    && n == x.rxN

/-- The accepted frame's effect (R264). -/
def shaciaTake (_ : State) (x : SafeConn) (bs : List Byte) : SafeConn :=
  let at_ := (x.sent.find? (fun e => e.1 == field bs 6 2)).map (·.2)
  { x with
    rxSeq := field bs 4 2, echoAt := at_, rx := shaciaWords bs, peerFs := (fieldB bs 1).getLsbD 1
    st := match x.st with
      | .timeout => if x.ackReq then .ackWait else .run
      | .ackWait => .ackWait
      | _ => .run }

def countDiscard (c : Nat) (s : State) : State :=
  let x := connOf s c
  setSafeConn c { x with disc := satInc x.disc } s

/-- A received safe frame (R263). A discarded frame counts for the connection that its CONN_ID names, if one does. -/
def shaciaFrame (udp : Bool) (peer : Word) (bs : List Byte) (s : State) : State :=
  if !shaciaForm bs then (match connById s (field bs 2 2) with | some c => countDiscard c s | none => s)
  else match connByPeer s udp peer (field bs 2 2) with
    | none => (match connById s (field bs 2 2) with | some c => countDiscard c s | none => s)
    | some c =>
      let x := connNow s (connOf s c)
      if !shaciaOk s x bs then countDiscard c (setSafeConn c x s)
      else
        let y := shaciaTake s x bs
        let s := addDelta [connDelta c y] (setSafeConn c y s)
        if y.resp then sendConn c s else s

/-- The safety subsystem takes frames. -/
def safeTakes (s : State) : Bool := s.safe.st == .run && (s.red.st == .single || s.red.st == .active)
/-- SHACIA_FRAME: a UDP frame is one that R243 has passed, a ring frame a SAFE frame that R213 has passed. -/
def execShaciaFrame (rx : ShaciaRx) (peer : Word) (bytes : List Byte) (s : State) : Out :=
  .next (match rx with
    | .datagram =>
      if safeTakes s && s.safe.inbox.contains (peer, bytes) then
        shaciaFrame true peer bytes { s with safe := { s.safe with inbox := s.safe.inbox.erase (peer, bytes) } }
      else s
    | .ring fcsOk tagged ether =>
      ringArrive ⟨bytes, fcsOk, tagged, ether⟩ (fun s =>
        if safeTakes s && fieldB bytes 1 == 7 then
          shaciaFrame false (natAt 0 (field bytes 2 1)) ((bytes.drop 0x14).take (field bytes 6 2)) s
        else s) s)

/-- The peers of the sealed parameter set, whether or not the subsystem runs (R243). -/
def udpPeer (s : State) (src : Word) : Bool :=
  (spConnEntries (safeParams s.run)).any (fun e => connUdp e && decide (field e 4 4 = src.toNat))
/-- SHACIA_DATAGRAM (R243): a configured peer and 1–256 bytes. -/
def execShaciaDatagram (rx : PlantRx) (d : ShaciaDatagram) (s : State) : Out :=
  .next (
    if !plantTakes rx s then s
    else if s.variant.safety ∧ 1 ≤ d.bytes.length ∧ d.bytes.length ≤ 256 ∧ udpPeer s d.src then
      { s with safe := { s.safe with inbox := s.safe.inbox ++ [(d.src, d.bytes)] } }
    else { s with net := { s.net with shaciaDisc := satInc s.net.shaciaDisc } })

/-- CONN_TIMEOUT (R264). -/
def execConnTimeout (c : Fin 64) (s : State) : Out :=
  .next (
    let x := connOf s c.val
    let y := connNow s x
    if s.safe.st = .run ∧ y.st ≠ x.st then addDelta [connDelta c.val y] (setSafeConn c.val y s) else s)

/-! ### Safety runs (R250, R253) -/

/-- SAFE_IN as captured (Table 10-3). -/
def connBytes (s : State) (c : Nat) : List (Nat × List Byte) :=
  let x := connNow s (connOf s c)
  if !x.used then []
  else
    let a := 0x400 + 0x100 * c
    let valid := x.st == .run && !x.peerFs
    let stat : Word := boolBit 0 valid ||| boolBit 1 x.peerFs
    (a, wordBytes (connWord x) ++ leBytes 4 (min (connAge s x) 0xFFFFFFFF)) ::
      (List.range x.rxN).map (fun w => (a + 8 + 8 * w, wordBytes (if valid then x.rx.getD w 0 else 0) ++ wordBytes stat))
def pairBytes (s : State) (k : Nat) : Nat × List Byte :=
  let p := pairOf s k
  (8 * k, wordBytes (boolBit 0 p.safe ||| boolBit 1 p.nc.v ||| boolBit 2 p.no.v) ++ wordBytes (pairWord p))
def captureSafeIn (s : State) : Memory :=
  ((List.range 24).map (pairBytes s) ++ (List.range 64).flatMap (connBytes s)).foldl (fun m e => writeBytes m e.1 e.2) []

/-- The 8-byte values of a SAFE_IN area, for READ records of KIND 7 (Table 11-14). -/
def safeInValues (m : Memory) : List Dword := (List.range 2176).map (fun i => BitVec.ofNat 64 (ofLe (readBytes m (8 * i) 8)))
def safeInOf (vs : List Dword) : Memory := writeBytes [] 0 (vs.flatMap (fun v => leBytes 8 v.toNat))

/-- A safety task whose run is due and not begun. -/
def safeWaits (s : State) (t : Nat) : Bool :=
  (s.tcfg t).kind == 4 && (s.task t).st == .running && (s.engine safeEng).run.task? != some (Fin.ofNat 32 t)

/-- SAFETY_RUN: priority order, then task number; W1–W31 zero; SAFE_IN captured. In a standby the capture comes from the
stream, and the run waits while it has not arrived (R285). -/
def execSafetyRun (t : TaskId) (s : State) : Out :=
  .next (
    if s.safe.st = .run ∧ (s.engine safeEng).run = .free ∧ safeWaits s t
      ∧ taskIds.all (fun u => !safeWaits s u || rankBefore s t u) then
      match spTaskOf (safeParams s.run) t, takeReads t 7 0xFFFF (safeInValues (captureSafeIn s)) s with
      | some e, some (vs, s) =>
        let s := s.modEngine safeEng (fun x => { x with w := [], pc := BitVec.ofNat 64 (field e 4 4), run := .lesson t 0xFFFF })
        { s with safe := { s.safe with safeIn := safeInOf vs, runStart := s.now } }
      | _, _ => s
    else s)

/-- SAFE_OUT at a Publish of Tt: the acknowledges (R257, R264) and what its connections send next (R253). -/
def publishPair (t : Nat) (s : State) (k : Nat) : State :=
  let p := pairOf s k
  if !p.used || p.task != t then s
  else
    let a := (readByte s.safe.safeOut (4 * k)).getLsbD 0
    let clear := a && !p.ack && p.st == .fault && !disagrees p && !p.nc.v
    setPair k { p with ack := a, st := if clear then .demand else p.st, safe := if clear then false else p.safe } s
def publishConn (t : Nat) (s : State) (c : Nat) : State :=
  let old := (connOf s c).st
  let x := connNow s (connOf s c)
  if !x.used || x.task != t then s
  else
    let b := 0x400 + 0x100 * c
    let ctl := readByte s.safe.safeOut b
    let a := ctl.getLsbD 0
    let y := { x with
      ack := a, fs := ctl.getLsbD 1
      tx := (List.range x.txN).map (fun w => BitVec.ofNat 32 (ofLe (readBytes s.safe.safeOut (b + 8 + 4 * w) 4)))
      st := if a && !x.ack && x.st == .ackWait then .run else x.st }
    let s := setSafeConn c y s
    if y.resp then (if y.st ≠ old then addDelta [connDelta c y] s else s) else sendConn c s
def publishSafety (t : Nat) (s : State) : State :=
  if (s.tcfg t).kind ≠ 4 ∨ s.safe.st ≠ .run then s
  else (List.range 64).foldl (publishConn t) ((List.range 24).foldl (publishPair t) s)

/-! ### Change log and password (R268–R270) -/

def logFree (s : State) : Nat := 32768 - s.safe.log.length

/-- The flash sector that takes the next record. -/
def logSector (s : State) : Nat := changeLogBase + s.safe.log.length / 1024 % 32
/-- A record is written with the next LOG_SEQ; not where its sector takes no program and no reserve is left (R302). -/
def logPut (r : LogRec) (s : State) : State :=
  if logFree s = 0 then s
  else
    let p := program (logSector s) s
    if !p.1 then p.2
    else { p.2 with safe := { p.2.safe with log := p.2.safe.log ++ [{ r with seq := p.2.safe.logSeq }], logSeq := p.2.safe.logSeq + 1 } }
/-- Append one record (Table 10-15), once its sector is not under rewrite (R318). -/
def logAppend (kind : Byte) (crc ver value : Word) (session : List Byte) (s : State) : State :=
  let r : LogRec := ⟨0, kind, crc, ver, value, if s.rtc.valid then utcMs s.rtc / 1000 else 0, s.opMs, powerCycles s,
    padTo 16 session⟩
  if rewriting s (logSector s) then { s with safe := { s.safe with logWait := s.safe.logWait ++ [r] } } else logPut r s
/-- The records that waited are written. -/
def logFlush (s : State) : State := s.safe.logWait.foldl (fun s r => logPut r s) { s with safe := { s.safe with logWait := [] } }

def logBytes (r : LogRec) : List Byte :=
  wordBytes 0x474C5331 ++ wordBytes r.seq ++ [r.kind, 0, 0, 0] ++ wordBytes r.crc ++ wordBytes r.ver ++ wordBytes r.value
    ++ leBytes 8 r.utc ++ leBytes 8 r.opMs ++ leBytes 4 r.cycles ++ padTo 16 r.session ++ wordBytes 0xA55A

/-- Password lockout in force (R269). -/
def pwLocked (s : State) : Bool := match s.safe.lockEnd with | some t => decide (s.opMs < t) | none => false
def passwordSet (s : State) : Bool := (pageValue s passwordPage).isSome && pageValue s passwordPage != some []
/-- The hash as stored. -/
def pwHash (pw : List Byte) : List Byte := padTo 64 (Config.passwordHash pw)
def passwordIs (s : State) (pw : List Byte) : Bool := pageValue s passwordPage == some (pwHash pw)

/-- A wrong password; the fifth in a row locks for 600 s of operating time. -/
def pwWrong (s : State) : State :=
  let n := s.safe.wrong + 1
  if n < 5 then { s with safe := { s.safe with wrong := n } }
  else logAppend 5 0 0 0 [] { s with safe := { s.safe with wrong := 0, lockEnd := some (s.opMs + 600000) } }
def pwRight (s : State) : State := { s with safe := { s.safe with wrong := 0 } }

/-- LOCKOUT_END. -/
def execLockoutEnd (s : State) : Out :=
  .next (if s.safe.lockEnd.isSome ∧ !pwLocked s then { s with safe := { s.safe with lockEnd := none } } else s)

/-- At the record stage of a load or edit that carries the accepted seal: ACTIVATED, with the session that began it (R268, log 24). -/
def logActivated (gen : Word) (session : List Byte) (s : State) : State :=
  match s.run.safety with
  | some g => logAppend 2 g.crc (spVersion g.params) gen session s
  | none => s

/-! ### Status block (Table 10-16) -/

def safetyReg (s : State) (o : Nat) : Word :=
  if !s.variant.safety then 0
  else if 0x40 ≤ o ∧ o < 0xA0 then pairWord (pairOf s ((o - 0x40) / 4))
  else if 0x100 ≤ o ∧ o < 0x200 then connWord (connNow s (connOf s ((o - 0x100) / 4)))
  else match o with
  | 0x00 => natAt 28 s.safe.st.code ||| atBit 24 s.safe.cause ||| boolBit 2 (decide (logFree s ≤ 64)) ||| boolBit 1 (pwLocked s)
      ||| boolBit 0 s.safe.accSeal.isSome
  | 0x04 => match s.safe.accSeal with | some a => a.1 | none => 0
  | 0x08 => match s.run.safety with | some g => g.crc | none => 0
  | 0x0C => match s.run.safety with | some g => spVersion g.params | none => 0
  | 0x10 => s.safe.failPc
  | 0x14 => s.safe.runMax
  | 0x18 => natAt 0 (logFree s)
  | _ => 0

end Sys2Proof.Machine
end

