-- ==== Sys2Proof/Machine/ImageCheck.lean ====
section
/-! DEFINITION. Stage 6 of a load: the units that the content needs, then every section in type order, its records in ascending
offset and the fields of a record in ascending offset (R37–R39, R59–R64, R67, R70, R85, R107, R112, R134, R141, R143, R170,
R214–R216, R249, R254, R267, R397, R403). -/

namespace Sys2Proof.Machine

/-- One check: the offset of its field in the section, the status of a refusal, whether it passes. -/
structure Chk where
  off  : Nat
  code : Byte
  ok   : Bool

def ck (off : Nat) (ok : Bool) : Chk := ⟨off, 0x07, ok⟩
def ckCap (off : Nat) (ok : Bool) : Chk := ⟨off, 0x0A, ok⟩
def shift (o : Nat) (cs : List Chk) : List Chk := cs.map (fun c => { c with off := c.off + o })

/-- Records of `n` bytes, each with its checks; at most `cap` of them, more being refused with CAPACITY; a part of a record at
the end is refused. -/
def recordsChk (n cap : Nat) (b : List Byte) (f : Nat → List Byte → List Chk) : List Chk :=
  (enumFrom 0 (records n b)).flatMap (fun e => ckCap (n * e.1) (decide (e.1 < cap)) :: shift (n * e.1) (f e.1 e.2))
    ++ [ck (b.length / n * n) (decide (b.length % n = 0))]

/-- No two entries of a list agree in `f` at index `i` and before it. -/
def firstOf {α : Type} (xs : List α) (i : Nat) (same : α → Bool) : Bool := !(xs.take i).any same

/-! ### Units (R37) -/

def needsSafety (c : ImageCfg) : Bool :=
  c.tasks.any (fun t => t.kind == 4) || c.channels.any (fun r => modeSafety (recMode r).toNat) || c.stations.any stSafe
    || c.safety.isSome
def needsUnits (c : ImageCfg) : Word := boolBit 8 (needsSafety c) ||| boolBit 9 c.pair

/-- The section whose content needs a unit first, for CFG_LOAD_DETAIL (log 19). -/
def needOffset (bs : List Byte) (c : ImageCfg) (absent : Word) : Nat :=
  if absent.getLsbD 9 then secOff bs 1
  else if c.tasks.any (fun t => t.kind == 4) then secOff bs 2
  else if c.channels.any (fun r => modeSafety (recMode r).toNat) then secOff bs 10
  else if c.stations.any stSafe then secOff bs 11 else secOff bs 12

def unitsErr (bs : List Byte) (c : ImageCfg) (units : Word) : Option LoadErr :=
  let n := needsUnits c
  let absent := n &&& ~~~units
  if absent ≠ 0 then some ⟨6, 0, lsUnitAbsent, needOffset bs c absent⟩
  else if hdrUnits bs &&& unitBits ≠ n then some ⟨6, 0, lsSectionInvalid, 0x18⟩
  else none

/-! ### Sections 0x01 and 0x02 -/

def paramsChk (b : List Byte) : List Chk :=
  [ ck 0 (decide (b.length = 32)), ck 0 (decide (fieldW b 0 >>> 1 = 0)), ck 4 (inRange 1 100000 (field b 4 4)),
    ck 8 (inRange 2 1000 (field b 8 2)), ck 0x0A (allZero b 0x0A 0x20) ]

/-- R112: TRIGGER of event task `t` (Table 5-3). -/
def triggerOk (c : ImageCfg) (t : Nat) (w : Word) : Bool :=
  let a := (w &&& 0xFFFFFF).toNat
  match (w >>> 24).toNat with
  | 1 => decide (a < 32768)
  | 2 => decide (a < 32768)
  | 3 => decide (a < 32) && a != t && (taskCfg c a).kind != 0 && (taskCfg c a).kind != 3
  | 4 => decide (a < 2)
  | 5 => inRange 1 254 a
  | 6 => decide (a < 16)
  | _ => false

def zeroFields (r : List Byte) (fs : List (Nat × Nat)) : List Chk := fs.map (fun f => ck f.1 (decide (field r f.1 f.2 = 0)))

def taskChk (c : ImageCfg) (t : Nat) (r : List Byte) : List Chk :=
  let x := readTask r
  let k := x.kind.toNat
  let safe := k == 4
  let pol := (x.flags >>> 1).toNat % 4
  let first := x.first.toNat
  let n := x.count.toNat
  if k = 0 then
    zeroFields r [(1, 1), (2, 2), (4, 4), (8, 4), (0x0C, 4), (0x10, 2), (0x12, 2), (0x14, 2), (0x16, 2), (0x18, 2), (0x1A, 2), (0x1C, 4)]
  else
    [ ck 0 (decide (k ≤ 4)),
      ck 0 (!safe || (decide (((c.tasks.take t).filter (fun y => y.kind == 4)).length < 4) && c.safety.isSome)),
      ck 1 (decide (x.prio.toNat ≤ 7)),
      ck 2 (decide (x.flags >>> 3 = 0) && pol != 3 && (k == 1 || pol == 0)),
      ck 4 (if k = 1 then inRange 50 10000000 x.period.toNat else if safe then inRange 1000 100000 x.period.toNat
            else decide (x.period = 0)),
      ck 8 (if k = 2 then triggerOk c t x.trigger else if k = 3 then decide (x.trigger.toNat < 32768) && routedIn c x.trigger.toNat
            else decide (x.trigger = 0)),
      ck 0x0C (if k = 3 then decide (x.watchdog = 0) else inRange 10 20000000 x.watchdog.toNat),
      ck 0x10 (k == 1 || decide (x.ovLimit = 0)),
      ck 0x12 (decide (first + n ≤ c.lessons.length) && (decide (0 < n) || decide (first = 0))),
      ck 0x14 ((k != 3 || inRange 1 16 n) && (!safe || decide (n = 0))),
      ckCap 0x14 (decide (n ≤ 1024)),
      ck 0x16 ((List.range t).all (fun u => decide (x.regionMask &&& (taskCfg c u).regionMask = 0)) && (!safe || decide (x.regionMask = 0))),
      ckCap 0x18 (decide (x.bbWords.toNat ≤ 4096)),
      ck 0x18 (!safe || decide (x.bbWords = 0)),
      ck 0x1A (decide (field r 0x1A 2 = 0)),
      ck 0x1C (decide (x.engineMask >>> 24 = 0) && ((k != 3 && !safe) || decide (x.engineMask = 0))) ]
def tasksChk (c : ImageCfg) (b : List Byte) : List Chk :=
  ck 0 (decide (b.length = 1024)) :: recordsChk 32 32 b (taskChk c)

/-! ### Section 0x03 -/

/-- Lessons that can be reached backwards from `front` along predecessors. -/
def ancestors (c : ImageCfg) : Nat → List Nat → List Nat → List Nat
  | 0, _, seen => seen
  | n + 1, front, seen =>
    let next := ((front.flatMap (fun l => (lessonCfg c l).preds)).filter (fun p => !seen.contains p)).eraseDups
    if next.isEmpty then seen else ancestors c n next (seen ++ next)
def onCycle (c : ImageCfg) (l : Nat) : Bool := (ancestors c c.lessons.length [l] []).contains l

def inTaskRange (c : ImageCfg) (t l : Nat) : Bool :=
  let x := taskCfg c t; decide (x.first.toNat ≤ l) && decide (l < x.first.toNat + x.count.toNat)

/-- The checks of a Lesson record that its content decides (R38, R67, R70, R85). -/
def lessonSem (c : ImageCfg) (l : Nat) (x : LessonCfg) : List Chk :=
  let t := x.task.toNat
  let y := taskCfg c t
  let u := x.unit.toNat
  let wave := x.kind == 1
  [ ck 0 (wave || (x.kind == 2 && y.kind != 3)),
    ck 1 (if wave then decide (u < 16) && y.regionMask.getLsbD u && firstOf c.lessons l (fun z => z.kind == 1 && z.unit == x.unit)
          else decide (u < 24) && y.engineMask.getLsbD u),
    ck 2 (decide (t < 32) && inTaskRange c t l && taskIds.all (fun u => u == t || !inTaskRange c u l)),
    ck 3 (y.kind != 3 || x.preds.isEmpty),
    ck 4 (if wave then decide (x.entry = 0) else decide (x.entry.toNat % 4 = 0) && decide (x.entry.toNat < 0x40000)),
    ck 8 (x.preds.all (fun p => decide (p < c.lessons.length) && (lessonCfg c p).task == x.task && !onCycle c p)) ]
def lessonChk (c : ImageCfg) (l : Nat) (r : List Byte) : List Chk :=
  let n := min (field r 3 1) 4
  (lessonSem c l (readLesson r)).flatMap (fun k => if k.off = 3 then [k, ck 3 (decide (field r 3 1 ≤ 4))] else [k])
    ++ [ck 8 ((List.range 4).all (fun j => decide (j < n) || decide (field r (8 + 2 * j) 2 = 0xFFFF)))]

/-! ### Section 0x04 -/

/-- Bits of a routing word that its KIND uses (Table 2-15); none for a reserved KIND. -/
def rwMask (k : Nat) : Option (BitVec 64) :=
  match k with
  | 0x0 => some 0
  | 0x1 => some 0x0FFFF800000003FF
  | 0x2 => some 0x0000000FFFFF03FF
  | 0x3 => some 0x00000001FFFF03FF
  | 0x4 => some 0x000000001FFF03FF
  | 0x8 => some 0x0000000FFFFF03F8
  | 0x9 => some 0x00000001FFFF03F8
  | 0xA => some 0x000000001FFF03F8
  | 0xB => some 0x000000001FFF03F8
  | _ => none

/-- A routing word with its region and block. -/
abbrev RWord := Nat × Nat × BitVec 64
def regionWords (c : ImageCfg) (r : Nat) : List RWord := (imagePlane c r).rws.map (fun e => (r, e.1 / 256, e.2))
def allWords (c : ImageCfg) : List RWord := regionIds.flatMap (regionWords c)

/-- What a sink drives, if the word is one: KIND and number and bit, in its task (R63); TIN and reset have no bit. -/
def sinkOf (w : BitVec 64) : Option (Nat × Nat × Nat) :=
  match rwKind w with
  | 0x8 => some (8, rwWord w, rwBit w)
  | 0x9 => some (9, rwBbWord w, rwBbBit w)
  | 0xA => some (10, rwTimer w, 0)
  | 0xB => some (11, rwTimer w, 0)
  | _ => none

/-- The wave Lesson of a region, and whether two regions run in one joint wave (R63, R67). -/
def waveLessonOf (c : ImageCfg) (r : Nat) : Option LessonCfg := c.lessons.find? (fun l => l.kind == 1 && l.unit.toNat == r)
def jointRegion (c : ImageCfg) (a b : Nat) : Bool :=
  match waveLessonOf c a, waveLessonOf c b with
  | some x, some y => x.task == y.task && samePreds x y
  | _, _ => false

def timerOwner (c : ImageCfg) (n : Nat) : Option Nat := (c.timers.find? (fun t => t.timer == n)).map (fun t => t.owner.toNat)

/-- The references of a routing word of region `r` (R38, R39, R63). -/
def wordRefs (c : ImageCfg) (r : Nat) (w : BitVec 64) : Bool :=
  match regionOwner c r with
  | none => false
  | some t =>
    let src := rwSrcCell w / 8192
    let bbOk := decide (rwBbWord w < (taskCfg c t).bbWords.toNat)
    let tmOk := timerOwner c (rwTimer w) == some t
    match rwKind w with
    | 0x1 => regionOwner c src == some t && (src == r || jointRegion c src r)
    | 0x2 => routedIn c (rwWord w)
    | 0x3 => bbOk
    | 0x4 => tmOk
    | 0x8 => (match routeOf c true (rwWord w) with | some e => e.owner.toNat == t | none => false)
    | 0x9 => bbOk
    | 0xA => tmOk
    | 0xB => tmOk
    | _ => true

/-- R39, R63, R64 for one word against the words that stand before it. -/
def wordAlone (c : ImageCfg) (before : List RWord) (x : RWord) : Bool :=
  let own (r : Nat) : Option Nat := regionOwner c r
  (!rwDrivesLine x.2.2 || before.all (fun y =>
      !(y.1 == x.1 && y.2.1 == x.2.1 && rwDrivesLine y.2.2 && rwDestCluster y.2.2 == rwDestCluster x.2.2
        && rwDestLine y.2.2 == rwDestLine x.2.2)))
  && (match sinkOf x.2.2 with
    | none => true
    | some k => before.all (fun y => !(own y.1 == own x.1 && sinkOf y.2.2 == some k)
        && !(k.1 == 8 && rwKind y.2.2 == 8 && rwWord y.2.2 == k.2.1 && y.1 != x.1)))

def wordOk (c : ImageCfg) (before : List RWord) (x : RWord) : Bool :=
  (match rwMask (rwKind x.2.2) with
    | some m => decide (x.2.2 &&& ~~~m &&& 0x0FFFFFFFFFFFFFFF = 0)
    | none => false)
  && wordRefs c x.1 x.2.2 && wordAlone c before x

/-- R59 and Table 2-14 for one cell word. -/
def cellOk (w : BitVec 128) : Bool :=
  let m := cellMode w
  decide (m ≤ 4) && (m != 0 || !cellOutState w) && ((m != 0 && m != 4) || (!cellRetain w && !cellInit w))
    && (m == 4 || !cellEdgeZero w) && (cellUsed w || decide ((w >>> 112).toNat % 128 = 0))
    && (List.range 6).all (fun i => decide (cellSel w i < 0x48) || decide (0xFE ≤ cellSel w i))

/-- R60: a source read by its table output lies far enough below its reader. -/
def levelOk (c : ImageCfg) (w : BitVec 128) (src : Nat) (h : Nat) : Bool :=
  let x := tget 0 (imagePlane c (src / 8192)).cells (src % 8192)
  !cellUsed x || cellOutState x || decide (cellLevel x + h ≤ cellLevel w)
/-- The levels of every input of a used cell. -/
def cellLevels (c : ImageCfg) (a : Nat) (w : BitVec 128) : Bool :=
  !cellUsed w || (List.range 6).all (fun i =>
    let v := cellSel w i
    if v < 8 then levelOk c w (a / 8 * 8 + v) 1
    else if v < 0x48 then
      match (imagePlane c (addrRegion a)).rws.find? (fun e => e.1 / 256 == addrBlock a % 64 && rwDrivesLine e.2
          && rwDestCluster e.2 == a / 8 % 16 && rwDestLine e.2 == v - 8) with
      | some e => rwKind e.2 != 1 || levelOk c w (rwSrcCell e.2) (hopCost (rwSrcCell e.2) a)
      | none => true
    else true)

/-- Distinct numbers that the words of a KIND name. -/
def distinct (ws : List RWord) (k : Nat) (num : BitVec 64 → Nat) : Nat :=
  ((ws.filter (fun x => rwKind x.2.2 == k)).map (fun x => num x.2.2)).eraseDups.length
/-- The limits of Table 3-4 for one region, and of R70 for the words of its task. -/
def portsOk (c : ImageCfg) (r : Nat) (ws : List RWord) : Bool :=
  let mine := ws.filter (fun x => x.1 == r)
  let timers := (mine.filter (fun x => rwKind x.2.2 == 10 || rwKind x.2.2 == 11)).length
  decide (distinct mine 2 rwWord ≤ 256) && decide (distinct mine 3 rwBbWord ≤ 128) && decide (distinct mine 4 rwTimer ≤ 256)
    && decide (distinct mine 8 rwWord ≤ 128) && decide (distinct mine 9 rwBbWord ≤ 128) && decide (timers ≤ 512)
    && (match regionOwner c r with
      | some t => (taskCfg c t).kind != 3 || decide (distinct (ws.filter (fun x => regionOwner c x.1 == some t)) 8 rwWord ≤ 8)
      | none => true)

/-- Words of a list, each judged against those before it. -/
def wordsOk (c : ImageCfg) : List RWord → List RWord → Bool
  | _, [] => true
  | before, x :: r => wordOk c before x && wordsOk c (before ++ [x]) r

/-- One frame; `before` holds the routing words of unchanged blocks and of the frames in front of it. -/
def frameChk (c : ImageCfg) (before : List RWord) (f : Frame) : List Chk :=
  let ws : List RWord := if f.routing then (frameWords f).map (fun e => (f.region, f.block, e.2)) else []
  [ ck f.off f.crcOk, ck f.off (regionOwner c f.region).isSome,
    ck f.off (f.routing || (frameCells f).all (fun e => cellOk e.2 && cellLevels c (f.region * 8192 + e.1) e.2)),
    ck f.off (wordsOk c before ws), ckCap f.off (portsOk c f.region (before ++ ws)) ]
def framesChk (c : ImageCfg) : List RWord → List Frame → List Chk
  | _, [] => []
  | before, f :: r =>
    frameChk c before f ++
      framesChk c (if f.routing then before ++ (frameWords f).map (fun e => (f.region, f.block, e.2)) else before) r

/-- Routing words of the blocks whose routing frame the image does not hold. -/
def keptWords (base : ImageCfg) (fs : List Frame) : List RWord :=
  (allWords base).filter (fun x => fs.all (fun f => !(f.routing && f.region == x.1 && f.block == x.2.1)))
def fabricChk (base c : ImageCfg) (b : List Byte) : List Chk :=
  let p := framesIn b
  framesChk c (keptWords base p.1) p.1 ++ (match p.2 with | some o => [ck o false] | none => [])

/-! ### Sections 0x05 to 0x07 -/

def chunkChk (shared : Bool) (x : ChunkAt) : List Chk :=
  let t := x.chunk.target.toNat
  shift x.off
    [ ck 0 (decide (t < 24) || (shared && t == 0xFF)), ck 4 (decide (x.chunk.addr % 4 = 0)),
      ckCap 4 (decide (x.chunk.addr + x.len ≤ (if t = 0xFF then 0x1000000 else 0x40000))),
      ck 8 (decide (x.len % 4 = 0) && !x.cut) ]
def chunksChk (shared : Bool) (b : List Byte) : List Chk :=
  (chunksIn b).flatMap (fun x => ck x.off (decide (x.off + 12 ≤ b.length)) ::
    (match chunkChk shared x with
      | k :: r => k :: ck (x.off + 1) (decide (field b (x.off + 1) 3 = 0)) :: r
      | [] => []))

def descValid (d : DescCfg) : Bool := d.flags.getLsbD 1
def descShared (d : DescCfg) : Bool := d.home == 0xFF
def descOverlap (a b : DescCfg) : Bool :=
  descValid a && descValid b && a.home == b.home && decide (a.addr.toNat < b.addr.toNat + b.size.toNat)
    && decide (b.addr.toNat < a.addr.toNat + a.size.toNat)
/-- R107 and Table 4-14 for a valid descriptor. -/
def descSem (c : ImageCfg) (n : Nat) (d : DescCfg) : List Chk :=
  if !descValid d then []
  else
    let a := d.addr.toNat
    let e := a + d.size.toNat
    let h := d.home.toNat
    let y := taskCfg c d.owner.toNat
    [ ck 0 (decide (a % 8 = 0) && (if descShared d then inRange 0x1000000 0x2000000 a && decide (e ≤ 0x2000000)
        else decide (23 < h) || decide (e ≤ 0x40000)) && firstOf c.descs n (descOverlap d)),
      ck 4 (decide (d.size.toNat % 8 = 0) && inRange 8 0x100000 d.size.toNat),
      ck 0x0A (descShared d || (decide (h < 24) && (y.kind == 0 || y.engineMask.getLsbD h))),
      ck 0x0B (decide (d.owner.toNat < 32) && y.kind != 0) ]
def descChk (c : ImageCfg) (n : Nat) (r : List Byte) : List Chk :=
  let d := readDesc r
  descSem c n d ++ [ck 0x0E (decide (d.flags >>> 2 = 0)), ck 0x0F (decide (field r 0x0F 1 = 0))]

/-! ### Sections 0x08 and 0x09 -/

def stationOfIn (c : ImageCfg) (n : Nat) : Option Nat := (c.stations.find? (fun r => (stInputs r).contains n)).map stNumber
def stationOfOut (c : ImageCfg) (n : Nat) : Option Nat := (c.stations.find? (fun r => (stOutputs r).contains n)).map stNumber
def stationOfRoute (c : ImageCfg) (r : RouteCfg) : Option Nat := if r.out then stationOfOut c r.num else stationOfIn c r.num

/-- Whether two entries of one group may share it (R134, R215). -/
def groupOk (c : ImageCfg) (a b : RouteCfg) : Bool :=
  a.group != b.group || a.group == 0 ||
    (a.out == b.out && (if a.out then a.owner == b.owner else a.endpoint == b.endpoint)
      && ((a.endpoint != 1 && b.endpoint != 1) || stationOfRoute c a == stationOfRoute c b || (a.out && a.endpoint != b.endpoint)))

def routeSem (c : ImageCfg) (n : Nat) (r : RouteCfg) : List Chk :=
  let e := r.endpoint.toNat
  let lim := if r.out then 48 else 96
  [ ck 0 ((e != 0 || decide (r.num < lim)) && (e != 1 || (decide (256 ≤ r.num) && (stationOfRoute c r).isSome))
      && (!inRange lim 255 r.num || inRange 5 7 e)),
    ck 2 (if r.out then decide (r.owner.toNat < 32) && (taskCfg c r.owner.toNat).kind != 0 else r.owner == 0xFF),
    ck 3 (e == 0 || e == 1 || e == 5 || e == 6 || (!r.out && e == 7)),
    ⟨4, 0x09, decide (r.group.toNat ≤ 4095)⟩,
    ck 4 ((c.routes.take n).all (fun x => groupOk c x r)) ]
def routeChk (c : ImageCfg) (b : List Byte) (n : Nat) (r : List Byte) : List Chk :=
  ck 0 (decide (n = 0) || decide (field b (8 * (n - 1)) 2 < field r 0 2)) :: routeSem c n (readRoute r)
    ++ [ck 6 (decide (fieldH r 6 >>> 2 = 0))]

def timerSem (c : ImageCfg) (n : Nat) (x : TimerCfg) : List Chk :=
  [ ck 0 (decide (x.timer ≤ 8191) && firstOf c.timers n (fun y => y.timer == x.timer)), ck 2 (decide (x.kind.toNat ≤ 3)),
    ck 4 (decide (x.preset >>> 48 = 0)), ck 0x0C (decide (x.owner.toNat < 32) && (taskCfg c x.owner.toNat).kind != 0) ]
def timerChk (c : ImageCfg) (n : Nat) (r : List Byte) : List Chk :=
  (timerSem c n (readTimer r)).flatMap (fun k => if k.off = 2 then [k, ck 3 (decide (fieldB r 3 >>> 1 = 0))] else [k])
    ++ [ck 0x0D (allZero r 0x0D 0x10)]

/-! ### Section 0x0A -/

def chanOf (c : ImageCfg) (n : Nat) : List Byte := c.channels.getD n []
def partnerChan (n : Nat) : Nat := if n % 2 = 0 then n + 1 else n - 1
def isSafeDi (c : ImageCfg) (n : Nat) : Bool := recMode (chanOf c n) == 7
def ownedBySafety (c : ImageCfg) (n : Nat) : Bool :=
  match routeOf c true n with | some e => (taskCfg c e.owner.toNat).kind == 4 | none => false

/-- R170, R254: pairs, their filters, their entry in the parameter set, and who owns the output word. -/
def chanSem (c : ImageCfg) (n : Nat) (r : List Byte) : List Chk :=
  let m := (recMode r).toNat
  [ ck 0 ((m != 7 || (isSafeDi c (partnerChan n) && (spPairEntries (safeParams c)).any (fun e => field e 0 1 == n / 2)))
      && (if m = 6 then ownedBySafety c n else !ownedBySafety c n)),
    ck 4 (m != 7 || n % 2 == 0 || decide (field r 4 4 = field (chanOf c (n - 1)) 4 4)) ]
def chanChk (c : ImageCfg) (n : Nat) (r : List Byte) : List Chk :=
  let rec_ := (recordChecks r).map (fun k => ck k.1 k.2)
  let sem := chanSem c n r
  rec_.flatMap (fun k => if k.off ≤ 4 then k :: sem.filter (fun x => x.off == k.off) else [k])
def chansChk (c : ImageCfg) (b : List Byte) : List Chk :=
  ck 0 (decide (b.length = 6144)) :: recordsChk 128 48 b (chanChk c)

/-! ### Section 0x0B -/

def modEntry (r : List Byte) (m : Nat) : Nat × Nat := (field r (0x20 + 2 * m) 1, field r (0x21 + 2 * m) 1)
def modSum (r : List Byte) (f : Nat × Nat → Nat) : Nat := ((List.range 16).map (fun m => f (modEntry r m))).foldl (· + ·) 0
/-- The input words of module `m`. -/
def modInputs (r : List Byte) (m : Nat) : List Nat :=
  let base := stIwBase r + ((List.range m).map (fun k => (modEntry r k).1)).foldl (· + ·) 0
  (List.range (modEntry r m).1).map (base + ·)
def overlap (a n b m : Nat) : Bool := decide (0 < n) && decide (0 < m) && decide (a < b + m) && decide (b < a + n)
def routedRemote (c : ImageCfg) (out : Bool) (n : Nat) : Bool :=
  match routeOf c out n with | some e => e.endpoint == 1 | none => false
/-- The input words of one module carry one non-zero GROUP (R215). -/
def modGroupOk (c : ImageCfg) (ws : List Nat) : Bool :=
  let gs := ws.map (fun n => match routeOf c false n with | some e => e.group | none => 0)
  gs.all (fun g => g != 0 && some g == gs.head?)

/-- R214 and R215 for one station record. -/
def stationChk (c : ImageCfg) (n : Nat) (r : List Byte) : List Chk :=
  let cyc := stCycle r
  let before := c.stations.take n
  let mods := field r 2 1
  [ ck 0 (inRange 1 254 (stNumber r) && before.all (fun x => decide (stNumber x < stNumber r))),
    ck 1 (decide (fieldB r 1 >>> 2 = 0)), ck 2 (inRange 1 16 mods), ck 3 (decide (field r 3 1 = 0)),
    ck 4 (inRange 250 100000 cyc && decide (cyc % 50 = 0)), ck 8 (decide (field r 8 4 < cyc)),
    ck 0x0C (inRange ((4 * cyc + 999) / 1000) 10000 (field r 0x0C 2)),
    ck 0x0E (decide (stIn r ≤ 128) && decide (modSum r (·.1) = stIn r)),
    ck 0x0F (decide (stOut r ≤ 128) && decide (modSum r (·.2) = stOut r)),
    ck 0x10 (inRange 256 32767 (stIwBase r) && decide (stIwBase r + stIn r ≤ 32768)
      && before.all (fun x => !overlap (stIwBase x) (stIn x) (stIwBase r) (stIn r)) && (stInputs r).all (routedRemote c false)),
    ck 0x12 (inRange 256 32767 (stQwBase r) && decide (stQwBase r + stOut r ≤ 32768)
      && before.all (fun x => !overlap (stQwBase x) (stOut x) (stQwBase r) (stOut r)) && (stOutputs r).all (routedRemote c true)),
    ck 0x1C (decide (field r 0x1C 4 = 0)) ]
  ++ (List.range 16).map (fun m => ck (0x20 + 2 * m)
      ((decide (m < mods) || modEntry r m == (0, 0)) && modGroupOk c (modInputs r m)))

/-- The period in µs of the safety task that serves station `st`: that of a ring connection to it. -/
def stationPeriod (c : ImageCfg) (st : Nat) : Nat :=
  match (spConnEntries (safeParams c)).find? (fun e => field e 3 1 == 0 && field e 4 4 == st) with
  | some e => (taskCfg c (field e 0x10 1)).period.toNat
  | none => 0
def hsrOf (ring : List Byte) : Bool := (fieldB ring 0).getLsbD 1
def loadOf (c : ImageCfg) : Nat × Nat := ringLoad c.stations (hsrOf (c.ring.getD [])) (stationPeriod c)

def networkChk (c : ImageCfg) (b : List Byte) : List Chk :=
  let f := fieldW b 0
  [ ck 0 (decide (f >>> 2 = 0) && (f.getLsbD 0 || !f.getLsbD 1)), ckCap 4 (decide (stationCount b ≤ 254)),
    ck 4 (decide (b.length = 32 + 64 * stationCount b)), ck 6 (decide (field b 6 1 ≤ 127)), ck 7 (allZero b 7 32) ]
  ++ shift 32 (recordsChk 64 254 (b.drop 32) (stationChk c))
  ++ [ckCap 0 (decide ((loadOf c).1 ≤ 75 * (loadOf c).2))]

/-! ### Section 0x0C (Tables 2-12, 10-6 to 10-13) -/

def isSafetyTask (c : ImageCfg) (t : Nat) : Bool := decide (t < 32) && (taskCfg c t).kind == 4

def spTaskChk (c : ImageCfg) (codeLen : Nat) (p : List Byte) (i : Nat) : List Chk :=
  let e := spTaskEntry p i
  let t := field e 0 1
  if t = 0xFF then [ck 1 (allZero e 1 16)]
  else
    [ ck 0 (isSafetyTask c t && (List.range i).all (fun j => field (spTaskEntry p j) 0 1 != t)), ck 1 (allZero e 1 4),
      ck 4 (decide (field e 4 4 % 4 = 0) && decide (field e 4 4 < codeLen)),
      ck 8 (inRange 500 200000 (field e 8 4) && decide (field e 8 4 < (taskCfg c t).watchdog.toNat)), ck 0x0C (allZero e 0x0C 16) ]
def spPairChk (c : ImageCfg) (p : List Byte) (i : Nat) : List Chk :=
  let e := spPairEntry p i
  let k := field e 0 1
  [ ck 0 (decide (k ≤ 23) && (i == 0 || decide (field (spPairEntry p (i - 1)) 0 1 < k)) && isSafeDi c (2 * k) && isSafeDi c (2 * k + 1)),
    ck 1 (decide (field e 1 1 ≤ 1)), ck 2 (inRange 1 10000 (field e 2 2)), ck 4 (isSafetyTask c (field e 4 1)), ck 5 (allZero e 5 8) ]
def spConnChk (c : ImageCfg) (p : List Byte) (i : Nat) : List Chk :=
  let e := spConnEntry p i
  let ring := field e 3 1 == 0
  let peer := field e 4 4
  let wd := field e 0x0C 2
  let t := field e 0x10 1
  let prev := (List.range i).map (spConnEntry p)
  [ ck 0 (decide (1 ≤ field e 0 2) && (i == 0 || decide (field (spConnEntry p (i - 1)) 0 2 < field e 0 2))),
    ck 2 (decide (field e 2 1 ≤ 1)), ck 3 (decide (field e 3 1 ≤ 1)),
    ck 4 (if ring then inRange 1 254 peer && c.stations.any (fun r => stNumber r == peer && stSafe r)
          else prev.all (fun x => !(field x 3 1 == 1 && field x 4 4 == peer))),
    ck 8 (decide (field e 8 4 ≠ 0)),
    ck 0x0C (inRange 2 10000 wd && decide (2 * (taskCfg c t).period.toNat ≤ 1000 * wd)),
    ck 0x0E (decide (field e 0x0E 1 ≤ 29)), ck 0x0F (decide (field e 0x0F 1 ≤ 29)), ck 0x10 (isSafetyTask c t),
    ck 0x11 (decide (field e 0x11 1 ≤ 1)), ck 0x12 (inRange 1 0xFFFFFFFE (field e 0x12 4)), ck 0x16 (allZero e 0x16 32) ]

/-- A safety task entry names task `t`. -/
def spNames (p : List Byte) (t : Nat) : Bool := (List.range 4).any (fun i => field (spTaskEntry p i) 0 1 == t)
/-- The program as the section holds it; `seal_` is the accepted seal. -/
def safetyChk (c : ImageCfg) (seal_ : Option Word) (b : List Byte) : List Chk :=
  let g := readSafety b
  let p := g.params
  let np := spPairCount p
  let nc := spConnCount p
  [ ⟨0, 0x11, decide (g.crc = crc32c p) && decide (seal_ = some g.crc)⟩,
    ck 4 (decide (field b 4 4 = 96 + 8 * np + 32 * nc)), ck 8 (decide (field b 8 4 ≤ 131072)),
    ck 0x0C (decide (field b 0x0C 4 ≤ 131072) && decide (b.length = 16 + field b 4 4 + field b 8 4 + field b 0x0C 4)) ]
  ++ shift 16 (
    [ ck 0 (decide (fieldW p 0 = 0x50534653)), ck 4 (decide (field p 4 4 ≠ 0)), ck 8 (inRange 1 0xFFFFFFFE (field p 8 4)),
      ⟨0x0C, 0x11, decide (fieldW p 0x0C = crc32c (g.code ++ g.data))⟩, ck 0x10 (decide (np ≤ 24)), ck 0x11 (decide (nc ≤ 64)),
      ck 0x12 (allZero p 0x12 0x20) ]
    ++ (List.range 4).flatMap (fun i => shift (0x20 + 16 * i) (spTaskChk c g.code.length p i))
    ++ [ck 0x20 (taskIds.all (fun t => (taskCfg c t).kind != 4 || spNames p t))]
    ++ (List.range np).flatMap (fun i => shift (0x60 + 8 * i) (spPairChk c p i))
    ++ (List.range nc).flatMap (fun i => shift (0x60 + 8 * np + 32 * i) (spConnChk c p i)))

/-! ### Retain set (R143) -/

def retainBytes (c : ImageCfg) : Nat :=
  8 * (c.routes.filter routeRetained).length + 16 * (c.timers.filter (·.retain)).length
    + (c.descs.filter descRetained).foldl (fun n d => n + d.size.toNat) 0
    + 1024 * (regionIds.filter (fun r => !(retainedCells (imagePlane c r)).isEmpty)).length

/-! ### The whole stage for a full image -/

/-- The checks of the section of type `t`. `base` is the running generation for a delta, empty for a full image. -/
def sectionChk (base c : ImageCfg) (seal_ : Option Word) (t : Nat) (b : List Byte) : List Chk :=
  match t with
  | 1 => paramsChk b
  | 2 => tasksChk c b
  | 3 => recordsChk 16 8192 b (lessonChk c)
  | 4 => fabricChk base c b
  | 5 => chunksChk false b
  | 6 => chunksChk true b
  | 7 => recordsChk 16 65536 b (descChk c)
  | 8 => recordsChk 8 16384 b (routeChk c b)
  | 9 => recordsChk 16 65536 b (timerChk c)
  | 10 => chansChk c b
  | 11 => networkChk c b
  | 12 => safetyChk c seal_ b
  | _ => []

/-- The first check of a section that fails, as CFG_LOAD reports it. -/
def chkErr (t off : Nat) (cs : List Chk) : Option LoadErr :=
  (cs.find? (fun k => !k.ok)).map (fun k => ⟨6, BitVec.ofNat 8 t, k.code, off + k.off⟩)

def retainErr (c : ImageCfg) : Option LoadErr := if retainBytes c ≤ 1048512 then none else some ⟨6, 0, lsCapacity, 0⟩

/-- Stage 6 of a full image. -/
def checkContent (units : Word) (seal_ : Option Word) (bs : List Byte) : Option LoadErr :=
  let c := readContent {} bs
  match unitsErr bs c units with
  | some e => some e
  | none =>
    match (sections bs).findSome? (fun x => chkErr x.type x.off (sectionChk {} c seal_ x.type (secBody bs x))) with
    | some e => some e
    | none => retainErr c

/-- Stages 2 to 6 of a full image. -/
def checkFull (s : State) (bs : List Byte) : Option LoadErr :=
  match checkContainer s bs with
  | some e => some e
  | none => checkContent s.variant.units (s.safe.accSeal.map (·.1)) bs

end Sys2Proof.Machine
end

