-- ==== Sys2Proof/Machine/DeltaCheck.lean ====
section
/-! DEFINITION. An online-edit delta: its carry-over map, and what stage 6 checks beside the checks of an image (R147–R153,
R157, Tables 6-1 to 6-7, 6-13). -/

namespace Sys2Proof.Machine

/-! ### The carry-over map (Tables 6-2 to 6-6) -/

def mapTimerN (b : List Byte) : Nat := field b 4 4
def mapStateN (b : List Byte) : Nat := field b 8 4
def mapInstN (b : List Byte) : Nat := field b 0x0C 4
def mapCopyN (b : List Byte) : Nat := field b 0x10 4
def mapTimerOff : Nat := 32
def mapStateOff (b : List Byte) : Nat := mapTimerOff + 8 * mapTimerN b
def mapInstOff (b : List Byte) : Nat := mapStateOff b + 8 * mapStateN b
def mapCopyOff (b : List Byte) : Nat := mapInstOff b + 16 * mapInstN b
def mapTimer (b : List Byte) (i : Nat) : Nat × Nat :=
  let o := mapTimerOff + 8 * i; (field b o 2, field b (o + 2) 2)
def mapState (b : List Byte) (i : Nat) : Nat × Nat :=
  let o := mapStateOff b + 8 * i; (field b o 4, field b (o + 4) 4)
def mapCopy (b : List Byte) (i : Nat) : CopyEntry :=
  let o := mapCopyOff b + 8 * i; ⟨field b o 3, fieldB b (o + 3), field b (o + 4) 3, field b (o + 7) 1⟩
/-- OLD, NEW, FIRST_COPY and COPY_N. -/
def mapInst (b : List Byte) (i : Nat) : Nat × Nat × Nat × Nat :=
  let o := mapInstOff b + 16 * i; (field b o 4, field b (o + 4) 4, field b (o + 8) 4, field b (o + 0x0C) 4)
def readMap (b : List Byte) : CarryMap :=
  { restart := (fieldB b 1).getLsbD 0
    timers := (List.range (mapTimerN b)).map (mapTimer b)
    states := (List.range (mapStateN b)).map (mapState b)
    insts := (List.range (mapInstN b)).map (fun i =>
      let e := mapInst b i
      ⟨e.1, e.2.1, (List.range e.2.2.2).map (fun k => mapCopy b (e.2.2.1 + k))⟩) }

/-- Element sizes of a conversion (Table 6-7): source and destination. -/
def convSizes (c : Byte) : Option (Nat × Nat) :=
  match c.toNat with
  | 0x00 => some (1, 1) | 0x01 => some (2, 2) | 0x02 => some (4, 4) | 0x03 => some (8, 8)
  | 0x10 => some (1, 2) | 0x11 => some (1, 4) | 0x12 => some (1, 8) | 0x13 => some (2, 4) | 0x14 => some (2, 8) | 0x15 => some (4, 8)
  | 0x20 => some (1, 2) | 0x21 => some (1, 4) | 0x22 => some (1, 8) | 0x23 => some (2, 4) | 0x24 => some (2, 8) | 0x25 => some (4, 8)
  | 0x30 => some (4, 8) | 0x31 => some (4, 8) | 0x32 => some (4, 8) | 0x33 => some (2, 4) | 0x34 => some (2, 4)
  | _ => none

/-! ### The edited task (R147) -/

def editedTask (base c : ImageCfg) (bs : List Byte) : Option Nat :=
  if hasSec bs 13 then (let k := field (secBytes bs 13) 0 1; if k < 32 then some k else none)
  else taskIds.find? (fun t => decide (taskCfg base t ≠ taskCfg c t))

/-! ### Scope (R147, R148, Table 6-1) -/

def sc (off : Nat) (ok : Bool) : Chk := ⟨off, 0x13, ok⟩

/-- Does a task other than `t` read input word `n` (R118, R71)? -/
def readByOther (c : ImageCfg) (t : Option Nat) (n : Nat) : Bool :=
  taskIds.any (fun u => some u != t && (taskCfg c u).kind != 0 &&
    ((taskCfg c u).kind == 3 && (taskCfg c u).trigger.toNat == n
     || ((hasFbLesson c u || (taskCfg c u).kind == 4) && routedIn c n)
     || (taskRegions (taskCfg c u)).any (fun r => (imagePlane c r).rws.any (fun e => rwKind e.2 == 2 && rwWord e.2 == n))))
def ownedByOther (c : ImageCfg) (t : Option Nat) (n : Nat) : Bool :=
  match routeOf c true n with | some e => some e.owner.toNat != t | none => false

/-- Two optional entries are equal, or each that is there belongs to the edited task: no entry passes between tasks (DESIGN CHOICE,
log 29). -/
def sameOrMine {α : Type} [DecidableEq α] (mine : α → Bool) (a b : Option α) : Bool :=
  decide (a = b) || (a.all mine && b.all mine)

def taskScope (base c : ImageCfg) (t : Option Nat) (u : Nat) : Bool :=
  decide (taskCfg base u = taskCfg c u) ||
    (some u == t && (taskCfg base u).kind == (taskCfg c u).kind && (taskCfg c u).kind != 0
      && regionIds.all (fun r => !(taskCfg c u).regionMask.getLsbD r || (taskCfg base u).regionMask.getLsbD r
        || (regionOwner base r).isNone))

/-- An output entry changes hands only within the edited task; an input entry may be added. -/
def routeScope (base c : ImageCfg) (t : Option Nat) (out : Bool) (n : Nat) : Bool :=
  if out then sameOrMine (fun r => some r.owner.toNat == t) (routeOf base true n) (routeOf c true n)
  else decide (routeOf base false n = routeOf c false n) || (routeOf base false n).isNone

def timerOf (c : ImageCfg) (n : Nat) : Option TimerCfg := c.timers.find? (fun x => x.timer == n)
def stationRec (c : ImageCfg) (n : Nat) : Option (List Byte) := c.stations.find? (fun r => stNumber r == n)
def stationFree (c : ImageCfg) (t : Option Nat) (r : List Byte) : Bool :=
  (stInputs r).all (fun n => !readByOther c t n) && (stOutputs r).all (fun n => !ownedByOther c t n)

def chanScope (base c : ImageCfg) (t : Option Nat) (n : Nat) : Bool :=
  decide (chanOf base n = chanOf c n)
    || (match routeOf c true n with | some e => some e.owner.toNat == t | none => false)
    || (!readByOther c t (2 * n) && !readByOther c t (2 * n + 1))

/-- No Lesson of another task begins in the chunk. -/
def codeScope (c : ImageCfg) (t : Option Nat) (x : ChunkAt) : Bool :=
  c.lessons.all (fun l => !(l.kind == 2 && l.unit == x.chunk.target && some l.task.toNat != t
    && decide (l.entry.toNat < x.chunk.addr + x.len) && decide (x.chunk.addr < l.entry.toNat + 4)))

/-- The byte range of a frame in the addresses of chunks. -/
def frameBase (d : DescCfg) : Nat := if descShared d then d.addr.toNat - 0x1000000 else d.addr.toNat
/-- R150: every byte of the chunk lies in a frame of the task that no instance entry names as NEW. -/
def dataScope (c : ImageCfg) (t : Option Nat) (m : CarryMap) (x : ChunkAt) : Bool :=
  let fs := (enumFrom 0 c.descs).filter (fun e => descValid e.2 && some e.2.owner.toNat == t
    && e.2.home == x.chunk.target && !m.insts.any (fun i => i.new_ == e.1))
  (List.range x.len).all (fun i => fs.any (fun e =>
    decide (frameBase e.2 ≤ x.chunk.addr + i) && decide (x.chunk.addr + i < frameBase e.2 + e.2.size.toNat)))

/-- Two descriptors are equal, or one names the edited task as its OWNER and each valid one does. -/
def descScope (t : Option Nat) (a b : Option DescCfg) : Bool :=
  let mine (d : DescCfg) : Bool := some d.owner.toNat == t
  decide (a = b) || (a.all (fun d => !descValid d || mine d) && b.all (fun d => !descValid d || mine d) && (a.any mine || b.any mine))

/-- What a section of a delta may change, entry by entry. The DETAIL of a running entry that the delta lacks is the section's start,
or the end of the delta's table (DESIGN CHOICE, log 29). -/
def scopeChk (base c : ImageCfg) (t : Option Nat) (m : CarryMap) (ty : Nat) (b : List Byte) : List Chk :=
  match ty with
  | 1 => [sc 0 (base.pair == c.pair)]
  | 2 => taskIds.map (fun u => sc (32 * u) (taskScope base c t u))
  | 3 => (List.range (max base.lessons.length c.lessons.length)).map (fun i =>
      sc (16 * min i c.lessons.length) (sameOrMine (fun l => some l.task.toNat == t) (base.lessons[i]?) (c.lessons[i]?)))
  | 4 => (framesIn b).1.map (fun f => sc f.off (t.isSome && (regionOwner base f.region == t || regionOwner c f.region == t)))
  | 5 => (chunksIn b).map (fun x => sc x.off (codeScope c t x))
  | 6 => (chunksIn b).map (fun x => ⟨x.off, 0x17, dataScope c t m x⟩)
  | 7 => (List.range (max base.descs.length c.descs.length)).map (fun i =>
      sc (16 * min i c.descs.length) (descScope t (base.descs[i]?) (c.descs[i]?)))
  | 8 => (enumFrom 0 c.routes).map (fun e => sc (8 * e.1) (routeScope base c t e.2.out e.2.num))
      ++ base.routes.map (fun r => sc 0 (routeScope base c t r.out r.num && (r.out || (routeOf c false r.num).isSome)))
  | 9 => (enumFrom 0 c.timers).map (fun e =>
        sc (16 * e.1) (sameOrMine (fun x => some x.owner.toNat == t) (timerOf base e.2.timer) (timerOf c e.2.timer)))
      ++ base.timers.map (fun x => sc 0 ((timerOf c x.timer).isSome || some x.owner.toNat == t))
  | 10 => (List.range 48).map (fun n => sc (128 * n) (chanScope base c t n))
  | 11 => sc 0 (decide (base.ring = c.ring)) ::
      (enumFrom 0 c.stations).map (fun e => sc (32 + 64 * e.1) (decide (stationRec base (stNumber e.2) = some e.2)
        || (stationFree c t e.2 && (stationRec base (stNumber e.2)).all (stationFree c t))))
      ++ base.stations.map (fun r => sc 0 ((stationRec c (stNumber r)).isSome || stationFree c t r))
  | 12 => [sc 0 (match t with | some u => (taskCfg c u).kind == 4 | none => false)]
  | _ => []

/-! ### Checks of the map (R152, R153) -/

def mi (off : Nat) (ok : Bool) : Chk := ⟨off, 0x15, ok⟩

def cellOf (c : ImageCfg) (a : Nat) : BitVec 128 := tget 0 (imagePlane c (a / 8192)).cells (a % 8192)
def cellMine (c : ImageCfg) (t a : Nat) : Bool := decide (a < 131072) && regionOwner c (a / 8192) == some t && cellUsed (cellOf c a)
/-- Modes that a state entry may join. -/
def modesJoin (a b : Nat) : Bool := (a == 4 && b == 4) || (inRange 1 3 a && inRange 1 3 b)
def descOf (c : ImageCfg) (t n : Nat) : Option DescCfg := (c.descs[n]?).filter (fun d => descValid d && d.owner.toNat == t)
def risesOr {α : Type} (f : Nat → α) (key : α → Nat) (i : Nat) : Bool := i == 0 || decide (key (f (i - 1)) ≤ key (f i))
def freshIn {α : Type} (f : Nat → α) (key : α → Nat) (i : Nat) : Bool := (List.range i).all (fun j => key (f j) != key (f i))

def mapTimerChk (base c : ImageCfg) (t : Nat) (b : List Byte) (i : Nat) : List Chk :=
  let f := mapTimer b
  let o := mapTimerOff + 8 * i
  let mine (img : ImageCfg) (n : Nat) : Option TimerCfg := (timerOf img n).filter (fun x => x.owner.toNat == t)
  [ ck o (risesOr f (·.1) i),
    mi o (freshIn f (·.1) i && freshIn f (·.2) i && decide (field b (o + 4) 4 = 0)
      && (match mine base (f i).1, mine c (f i).2 with | some x, some y => x.kind == y.kind | _, _ => false)) ]
def mapStateChk (base c : ImageCfg) (t : Nat) (b : List Byte) (i : Nat) : List Chk :=
  let f := mapState b
  let o := mapStateOff b + 8 * i
  [ ck o (risesOr f (·.1) i),
    mi o (freshIn f (·.1) i && freshIn f (·.2) i && cellMine base t (f i).1 && cellMine c t (f i).2
      && modesJoin (cellMode (cellOf base (f i).1)) (cellMode (cellOf c (f i).2))) ]
def mapInstChk (base c : ImageCfg) (t : Nat) (b : List Byte) (i : Nat) : List Chk :=
  let f := mapInst b
  let o := mapInstOff b + 16 * i
  let e := f i
  [ ck o (risesOr f (·.1) i),
    mi o (freshIn f (·.1) i && freshIn f (·.2.1) i && decide (e.2.2.1 + e.2.2.2 ≤ mapCopyN b)
      && (match descOf base t e.1, descOf c t e.2.1 with
        | some x, some y => e.2.2.2 != 0 || (x.typeId == y.typeId && x.layout == y.layout && x.size == y.size)
        | _, _ => false)) ]

/-- The instance entries that use copy entry `k`. -/
def copyUsers (b : List Byte) (k : Nat) : List (Nat × Nat × Nat × Nat) :=
  ((List.range (mapInstN b)).map (mapInst b)).filter (fun e => decide (e.2.2.1 ≤ k) && decide (k < e.2.2.1 + e.2.2.2))
def copySpan (x : CopyEntry) : Nat := x.count * (match convSizes x.conv with | some z => z.2 | none => 0)
/-- R153. -/
def mapCopyChk (base c : ImageCfg) (t : Nat) (b : List Byte) (k : Nat) : List Chk :=
  let o := mapCopyOff b + 8 * k
  let x := mapCopy b k
  let ok := match convSizes x.conv with
    | none => false
    | some z => decide (x.oldOff % z.1 = 0) && decide (x.newOff % z.2 = 0) &&
      (copyUsers b k).all (fun e =>
        (match descOf base t e.1, descOf c t e.2.1 with
          | some p, some q => decide (x.oldOff + x.count * z.1 ≤ p.size.toNat) && decide (x.newOff + x.count * z.2 ≤ q.size.toNat)
          | _, _ => false)
        && (List.range k).all (fun j => decide (j < e.2.2.1) ||
            !overlap (mapCopy b j).newOff (copySpan (mapCopy b j)) x.newOff (copySpan x)))
  [⟨o, 0x16, ok⟩, ck (o + 7) (decide (1 ≤ x.count))]

def mapChk (base c : ImageCfg) (b : List Byte) : List Chk :=
  let t := field b 0 1
  let used := decide (t < 32) && (taskCfg base t).kind != 0
  [ mi 0 used, mi 1 (decide (fieldB b 1 >>> 1 = 0)), mi 2 (decide (field b 2 2 = 0)), ck 4 (decide (mapTimerN b ≤ 8192)),
    ck 8 (decide (mapStateN b ≤ 131072)), ck 0x0C (decide (mapInstN b ≤ 65536)), ck 0x10 (decide (mapCopyN b ≤ 1048576)),
    mi 0x14 (allZero b 0x14 0x20), ck 0 (decide (b.length = mapCopyOff b + 8 * mapCopyN b)) ]
  ++ (List.range (mapTimerN b)).flatMap (mapTimerChk base c t b)
  ++ (List.range (mapStateN b)).flatMap (mapStateChk base c t b)
  ++ (List.range (mapInstN b)).flatMap (mapInstChk base c t b)
  ++ (List.range (mapCopyN b)).flatMap (mapCopyChk base c t b)

/-! ### What the delta leaves as it is: its references into what it changes (log 19) -/

/-- R60 for every cell of the new generation. -/
def levelsOk (c : ImageCfg) : Bool :=
  regionIds.all (fun r => (imagePlane c r).cells.all (fun e => cellLevels c (r * 8192 + e.1) e.2))

def refsOk (base c : ImageCfg) (bs : List Byte) : Bool :=
  let all (cs : List Chk) : Bool := cs.all (·.ok)
  let gone (ty : Nat) : Bool := !hasSec bs ty
  let p := safeParams c
  (!gone 2 || c.tasks.all (fun x => x.kind == 0 || (decide (x.first.toNat + x.count.toNat ≤ c.lessons.length)
      && (x.kind != 3 || routedIn c x.trigger.toNat))))
  && (!gone 3 || (enumFrom 0 c.lessons).all (fun e => all (lessonSem c e.1 e.2)))
  && (!gone 4 || (wordsOk c [] (allWords base) && regionIds.all (fun r => portsOk c r (allWords base))
      && levelsOk c))
  && (gone 4 || (levelsOk c && (keptWords base (framesIn (secBytes bs 4)).1).all (fun x => wordRefs c x.1 x.2.2)))
  && (!gone 7 || (enumFrom 0 c.descs).all (fun e => all (descSem c e.1 e.2)))
  && (!gone 8 || (enumFrom 0 c.routes).all (fun e => all (routeSem c e.1 e.2)))
  && (!gone 9 || (enumFrom 0 c.timers).all (fun e => all (timerSem c e.1 e.2)))
  && (!gone 10 || (enumFrom 0 c.channels).all (fun e => all (chanSem c e.1 e.2)))
  && (!gone 11 || (enumFrom 0 c.stations).all (fun e => all (stationChk c e.1 e.2)))
  && (!gone 12 || c.safety.isNone || ((List.range 4).all (fun i => all (spTaskChk c ((c.safety.map (·.code.length)).getD 0) p i))
      && taskIds.all (fun t => (taskCfg c t).kind != 4 || spNames p t)
      && (List.range (spPairCount p)).all (fun i => all (spPairChk c p i))
      && (List.range (spConnCount p)).all (fun i => all (spConnChk c p i))))

/-! ### Recess time (R157, Table 6-9) -/

def ceilDiv (a b : Nat) : Nat := (a + b - 1) / b
def timersOf (c : ImageCfg) (t : Nat) : List Nat := (c.timers.filter (fun x => x.owner.toNat == t)).map (·.timer)
/-- Valid frames of a task, by instance number. -/
def framesOf (c : ImageCfg) (t : Nat) : List (Nat × DescCfg) :=
  (enumFrom 0 c.descs).filter (fun e => descValid e.2 && e.2.owner.toNat == t)
/-- Is new frame `n` built in step 5? One carried whole at its address is not. -/
def frameBuilt (base : ImageCfg) (m : CarryMap) (e : Nat × DescCfg) : Bool :=
  match m.insts.find? (fun i => i.new_ == e.1) with
  | none => true
  | some i => !i.copies.isEmpty || (match base.descs[i.old]? with | some d => d.addr != e.2.addr || d.home != e.2.home | none => true)
/-- The frames that step 5 writes. -/
def builtFrames (base c : ImageCfg) (t : Nat) (m : CarryMap) : List (Nat × DescCfg) := (framesOf c t).filter (frameBuilt base m)
/-- Bytes written into LOCAL or SHARED. -/
def writtenBytes (d : DeltaCfg) (base : ImageCfg) (shared : Bool) : Nat :=
  if d.has7 then ((builtFrames base d.new_ d.task d.map).filter (fun e => descShared e.2 == shared)).foldl (fun n e => n + e.2.size.toNat) 0
  else (d.data.filter (fun x => (x.target == 0xFF) == shared)).foldl (fun n x => n + x.bytes.length) 0
/-- Bcode. Only section 0x05 counts, for engines 0–23 (DESIGN CHOICE, log 29). -/
def codeMost (d : DeltaCfg) : Nat :=
  (List.range 24).foldl (fun m e => max m ((d.code.filter (fun x => x.target.toNat == e)).foldl (fun n x => n + x.bytes.length) 0)) 0
def recessNs (base : ImageCfg) (d : DeltaCfg) : Nat :=
  400 + (if d.has4 then 4096 else 0)
    + (if d.has9 then 2 * (timersOf base d.task ++ timersOf d.new_ d.task).eraseDups.length else 0)
    + ceilDiv (codeMost d) 32 + ceilDiv (writtenBytes d base false) 8 + ceilDiv (writtenBytes d base true) 4
def recessLimit (base : ImageCfg) (t : Nat) : Nat :=
  match (taskCfg base t).kind.toNat with
  | 2 => 1000000
  | 3 => 100000
  | _ => min 1000000 (500 * (taskCfg base t).period.toNat)

/-! ### The whole stage for a delta -/

/-- Initial data of the new generation: the frames that the edit builds hold 0 but for the delta's data (R164). -/
def newData (base c : ImageCfg) (d : DeltaCfg) : List Chunk :=
  base.data ++ (if d.has7 then (builtFrames base c d.task d.map).map (fun e =>
    ⟨e.2.home, frameBase e.2, List.replicate e.2.size.toNat 0⟩) else []) ++ d.data

def readDelta (base : ImageCfg) (bs : List Byte) : DeltaCfg :=
  let c := readContent base bs
  let d : DeltaCfg :=
    { task := (editedTask base c bs).getD 0, new_ := c, map := if hasSec bs 13 then readMap (secBytes bs 13) else {}
      blocks := ((framesIn (secBytes bs 4)).1.map (fun f => (f.region, f.block))).eraseDups
      has4 := hasSec bs 4, has7 := hasSec bs 7, has9 := hasSec bs 9, has12 := hasSec bs 12
      code := (chunksIn (secBytes bs 5)).map (·.chunk), data := (chunksIn (secBytes bs 6)).map (·.chunk) }
  { d with new_ := { c with data := newData base c d } }

/-- The map that R151 requires is not there. -/
def mapMissing (bs : List Byte) : Bool := !hasSec bs 13 && (hasSec bs 4 || hasSec bs 7 || hasSec bs 9)

/-- Stage 6 of a delta against the running generation. Without the map that R151 requires and without a differing task
record there is no edited task to hold the scope to, and the delta is MAP_MISSING (log 29). -/
def checkDeltaContent (base : ImageCfg) (units : Word) (seal_ : Option Word) (bs : List Byte) : Option LoadErr :=
  let c := readContent base bs
  let t := editedTask base c bs
  let m := if hasSec bs 13 then readMap (secBytes bs 13) else {}
  let secs := (sections bs).findSome? (fun x =>
    let b := secBody bs x
    chkErr x.type x.off (if x.type = 13 then mapChk base c b else sectionChk base c seal_ x.type b
      ++ (if mapMissing bs && t.isNone then [] else scopeChk base c t m x.type b)))
  match unitsErr bs c units with
  | some e => some e
  | none => match secs with
    | some e => some e
    | none =>
      let d := readDelta base bs
      let r := recessNs base d
      firstErr
        [ (!mapMissing bs, ⟨6, 0, lsMapMissing, 0x40⟩),
          (t.isSome, ⟨6, 0, lsEditScope, 0x40⟩), (refsOk base c bs, ⟨6, 0, lsSectionInvalid, 0⟩),
          (decide (retainBytes c ≤ 1048512), ⟨6, 0, lsCapacity, 0⟩),
          (decide ((loadOf c).1 ≤ 75 * (loadOf c).2), ⟨6, 0, lsCapacity, 0⟩),
          (m.restart || decide (r ≤ recessLimit base d.task), ⟨6, 0, lsRecessLong, r⟩) ]

/-- Stages 2 to 6 of an image or delta. -/
def checkImage (s : State) (bs : List Byte) : Option LoadErr :=
  match checkContainer s bs with
  | some e => some e
  | none =>
    let seal_ := s.safe.accSeal.map (·.1)
    if hdrDelta bs then checkDeltaContent s.run s.variant.units seal_ bs else checkContent s.variant.units seal_ bs

end Sys2Proof.Machine
end

