-- ==== Sys2Proof/Machine/Publish.lean ====
section
/-! DEFINITION. The seal flip (R122) with what it brings in the safety subsystem and in the pair. -/

namespace Sys2Proof.Machine

/-- The safety subsystem and the pair at the flip of Tt's activation `act`. -/
def flipHook (t : TaskId) (act : Word) (s : State) : State :=
  afterPublish t act (publishSafety t s)

/-- The apply port stands at the end of Tt's batch: the batch is on the port, and no step of the reflex lane goes first
(R74, R139). -/
def portAt (j : PortJob) (s : State) : Bool := portCur s == some j && s.img.lane.isEmpty

/-- SEAL_FLIP (R122, R139, R253, R265, R288): Tt's batch has been walked; a MARK that waits then starts. -/
def execSealFlip (t : TaskId) (s : State) : Out :=
  .next (
    let s := portKick s
    if portAt (.task t.val) s then nextMark t (flipTask t (flipHook t (s.task t).actCnt) s) else s)

end Sys2Proof.Machine
end

