-- ==== Sys2Proof/Machine/Pages.lean ====
section
/-! DEFINITION. The state that resynchronisation carries, as pages of 1,024 bytes (Tables 11-16, 11-19): a page of the
active module, and what the standby does with one. -/

namespace Sys2Proof.Machine

/-! ### Addresses -/

def pageAddr (space engine idx : Nat) : Word := natAt 24 space ||| natAt 19 engine ||| natAt 0 idx
def pageSpace (a : Word) : Nat := (a >>> 24).toNat
def pageEngine (a : Word) : Nat := (a >>> 19).toNat % 32
def pageIdx (a : Word) : Nat := a.toNat % 2 ^ 19
/-- Pages of each space. -/
def spacePages (space : Nat) : Nat :=
  match space with
  | 1 => 256 | 2 => 256 | 3 => 2 | 4 => 512 | 5 => 16 | 6 => 128 | 7 => 256 | 8 => 16384 | 9 => 128 | 10 => 10 | 11 => 4
  | 12 => 16 | 13 => 1 | _ => 0
/-- Every page that the transfer carries. -/
def allPages : List Word :=
  (List.range 14).flatMap (fun sp =>
    (if sp = 7 then List.range 24 else [0]).flatMap (fun e => (List.range (spacePages sp)).map (fun i => pageAddr sp e i)))

/-- Objects of `size` bytes laid one after another: object `k` of the page. -/
def objBytes (page : List Byte) (size k : Nat) : List Byte := (page.drop (size * k)).take size

/-! ### Pages of the active module -/

def imgWordBytes (w : ImgWord) : List Byte := wordBytes w.data ++ wordBytes w.tag
/-- The next due time of a cyclic or safety task, in µs (R117); 0 for the other kinds. -/
def nextDue (s : State) (t : Nat) : Nat :=
  let c := s.tcfg t
  if c.kind = 1 ∨ c.kind = 4 then (s.tbrd / c.period.toNat + 1) * c.period.toNat else 0
def taskBytes (s : State) (t : Nat) : List Byte :=
  let x := s.task t
  padTo 64 (((List.range 8).flatMap (fun k => wordBytes (taskReg (s.tcfg t) x (4 * k)))) ++ leBytes 4 x.pending.toNat
    ++ leBytes 4 x.merged.toNat ++ leBytes 8 (nextDue s t))
def timerFlags (x : TimerSt) : Byte := BitVec.ofNat 8 (x.inp.toNat + 2 * x.rst.toNat + 4 * x.q.toNat + 8 * x.run.toNat)
def timerBytes (x : TimerSt) : List Byte := leBytes 8 x.elapsed.toNat ++ [timerFlags x, 0, 0, 0, 0, 0, 0, 0]
def bitByte (t : Tab Bool) (base : Nat) : Byte :=
  BitVec.ofNat 8 ((List.range 8).foldl (fun n i => n + (tget false t (base + i)).toNat * 2 ^ i) 0)
/-- WORD of a force or simulation entry. -/
def entryWord (f : ForceEntry) : Word := boolBit 15 f.out ||| natAt 0 f.num
def freeEntry : Word := 0xFFFFFFFF
/-- The area of SPACE 10. -/
def forceArea (s : State) : List Byte :=
  (List.range 512).flatMap (fun i => match s.img.forces[i]? with
      | some f => wordBytes (entryWord f) ++ wordBytes f.data
      | none => wordBytes freeEntry ++ [0, 0, 0, 0])
    ++ (List.range 512).flatMap (fun i => match s.img.sims[i]? with
      | some f => wordBytes (entryWord f) ++ wordBytes f.data ++ leBytes 4 f.qual.toNat
      | none => wordBytes freeEntry ++ [0, 0, 0, 0, 0, 0, 0, 0])
def connArea (s : State) (c : Nat) : List Byte :=
  let x := connOf s c
  padTo 256 ((connDelta c x).state ++ [0, 0, 0, 0]
    ++ padTo 192 (x.sent.reverse.flatMap (fun e => (sentDelta c e.1 e.2).state)))

def pageOf (s : State) (a : Word) : List Byte :=
  let i := pageIdx a
  let objs (n : Nat) (f : Nat → List Byte) : List Byte := (List.range n).flatMap (fun k => f (n * i + k))
  padTo 1024 (match pageSpace a with
    | 1 => objs 128 (fun n => imgWordBytes (s.qwGet n))
    | 2 => objs 128 (fun n => imgWordBytes (s.iwGet n))
    | 3 => objs 16 (taskBytes s)
    | 4 => (List.range 256).flatMap (fun k => wordBytes (tget (α := Word) 0 (s.task (i / 16)).bb (i % 16 * 256 + k)))
    | 5 => (List.range 1024).map (fun k => bitByte (s.region i).bits (8 * k))
    | 6 => objs 64 (fun n => timerBytes (s.timer n))
    | 7 => readBytes (s.engine (pageEngine a)).local_ (1024 * i) 1024
    | 8 => readBytes s.shared (1024 * i) 1024
    | 9 => readBytes (s.engine safeEng).local_ (1024 * i) 1024
    | 10 => (forceArea s).drop (1024 * i)
    | 11 => objs 64 (fun n => padTo 16 (stnState (stn s n)))
    | 12 => objs 4 (connArea s)
    | 13 => leBytes 8 s.tbrd ++ leBytes 8 (clkWord s.rtc).toNat
    | _ => [])

/-! ### Pages in the standby -/

/-- Bits [7:6] of a tag are 0 at every hop (R130). -/
def imgWordOf (b : List Byte) : ImgWord := ⟨fieldW b 0, tagClean (fieldW b 4)⟩
def taskStateOf (n : Nat) : TaskState :=
  match n with
  | 1 => .idle | 2 => .rollCall | 3 => .running | 4 => .publish | 5 => .recess | 6 => .stopped | 7 => .fault | _ => .unused
/-- A task as the active module has it; one that owns a faulted region here stays stopped (R18, R19). -/
def putTask (t : Nat) (b : List Byte) (s : State) : State :=
  if (s.tcfg t).kind = 0 then s
  else
    let st := fieldW b 0
    let own := regionFaulted s t
    let due := field b 0x28 8
    let x := { s.task t with
      st := if own then .fault else taskStateOf (st >>> 28).toNat, cause := if own then 3 else st.extractLsb' 24 4
      lastDue := if due = 0 then none else some (due - (s.tcfg t).period.toNat), pending := st.getLsbD 17, simIn := st.getLsbD 16
      actCnt := fieldW b 4, lastNs := fieldW b 8, maxNs := fieldW b 0xC, skipped := fieldW b 0x10, fault := fieldW b 0x14
      merged := fieldH b 0x18, consec := fieldH b 0x1A, foreign := fieldW b 0x1C, wanted := false, lessons := [], batch := [] }
    let s := s.setTask t x
    setTaskRegions t (match x.st with | .stopped => .stopped | .fault => .stopped | .recess => .recess | _ => .idle) s
def putTimer (n : Nat) (elapsed : Nat) (f : Byte) (s : State) : State :=
  let x := s.timer n
  if x.used then
    s.setTimer n { x with
      elapsed := BitVec.ofNat 48 elapsed, inp := f.getLsbD 0, rst := f.getLsbD 1, q := f.getLsbD 2, run := f.getLsbD 3
      sat := decide (BitVec.ofNat 48 elapsed = elapsedMax) }
  else s
def putRegion (r : Nat) (page : List Byte) (s : State) : State :=
  let bits := (List.range 8192).foldl (fun t k => tset false t k ((page.getD (k / 8) 0).getLsbD (k % 8))) []
  s.modRegion r (fun x => { x with bits := bits, parity := bits, prime := [] })
def forcesOf (b : List Byte) : List ForceEntry :=
  (List.range 512).filterMap (fun i =>
    let w := fieldW b (8 * i)
    if w = freeEntry then none else some ⟨w.getLsbD 15, w.toNat % 32768, fieldW b (8 * i + 4), 0⟩)
def simsOf (b : List Byte) : List ForceEntry :=
  (List.range 512).filterMap (fun i =>
    let o := 4096 + 12 * i
    let w := fieldW b o
    if w = freeEntry then none else some ⟨false, w.toNat % 32768, fieldW b (o + 4), BitVec.ofNat 2 (field b (o + 8) 1)⟩)
def putForces (i : Nat) (page : List Byte) (s : State) : State :=
  let a := forceArea s
  let b := a.take (1024 * i) ++ page ++ a.drop (1024 * (i + 1))
  { s with img := { s.img with forces := forcesOf b, sims := simsOf b } }
def stnPhaseOf (n : Nat) : StnPhase :=
  match n with | 1 => .starting | 2 => .configuring | 3 => .running | 4 => .hold | 5 => .lost | _ => .none
/-- The STATE bytes of KIND 2 of Table 11-16. -/
def putStation (n : Nat) (b : List Byte) (s : State) : State :=
  if (stnRec s n).isNone then s
  else
    setStn n { (stn s n) with st := stnPhaseOf (field b 0 1), missed := BitVec.ofNat 7 (field b 1 1), seq := fieldH b 2 } s
def connPhaseOf (n : Nat) : ConnPhase :=
  match n with | 1 => .starting | 2 => .run | 3 => .timeout | 4 => .ackWait | _ => .unused
/-- The STATE bytes of KIND 3. A new RX_SEQ tells of a newly accepted frame; the record does not say which frame it echoes: the
one sent last (log 18). -/
def putConn (c : Nat) (b : List Byte) (s : State) : State :=
  let x := connOf s c
  if x.used then
    setSafeConn c { x with
      st := connPhaseOf (field b 0 1), txSeq := field b 2 2, rxSeq := field b 4 2
      echoAt := if field b 4 2 = x.rxSeq ∧ x.echoAt.isSome then x.echoAt else (x.sent.head?).map (·.2) } s
  else s
/-- The STATE bytes of KIND 4: a frame sent, newest first. -/
def putSent (c : Nat) (b : List Byte) (s : State) : State :=
  let x := connOf s c
  if x.used ∧ field b 0 2 ≠ 0 then setSafeConn c { x with sent := ((field b 0 2, field b 4 8) :: x.sent).take 16 } s else s
def putConnArea (c : Nat) (b : List Byte) (s : State) : State :=
  let s := putConn c b s
  let s := setSafeConn c { (connOf s c) with sent := [] } s
  let s := (List.range 16).foldl (fun s k => putSent c ((b.drop (16 + 12 * k)).take 12) s) s
  setSafeConn c { (connOf s c) with echoAt := (connOf s c).echoAt.or (((connOf s c).sent.head?).map (·.2)) } s

/-- The calendar from a CLKRD word (Table 4-13). A clock that has failed holds its value, and TIME_VALID does not rise by what
the partner tells: only a commit sets it (R349, R352, log 41). -/
def rtcOfClk (w : Dword) (r : RtcSt) : RtcSt :=
  let f (lo n : Nat) : Nat := (w >>> lo).toNat % 2 ^ n
  if r.clkFail then r
  else { r with
    valid := r.valid && w.getLsbD 63, summer := w.getLsbD 51
    cal := ⟨f 36 12, f 32 4, f 27 5, f 22 5, f 16 6, f 10 6⟩, prescaler := min 32767 ((f 0 10 * 32768 + 999) / 1000) }
/-- The module timebase and the calendar at the cut (R286). -/
def setTimebase (tbrd : Nat) (clk : Dword) (s : State) : State := { s with now := tbrd * 1000, rtc := rtcOfClk clk s.rtc }

/-- A STATE record in the standby. -/
def putPage (a : Word) (page : List Byte) (s : State) : State :=
  let i := pageIdx a
  let objs (n size : Nat) (f : Nat → List Byte → State → State) (s : State) : State :=
    (List.range n).foldl (fun s k => f (n * i + k) (objBytes page size k) s) s
  if spacePages (pageSpace a) ≤ i then s
  else match pageSpace a with
  | 1 => objs 128 8 (fun n b s => s.setQw n (imgWordOf b)) s
  | 2 => objs 128 8 (fun n b s => { s with red := { s.red with replica := tset {} s.red.replica n (imgWordOf b) } }) s
  | 3 => objs 16 64 putTask s
  | 4 => (List.range 256).foldl (fun s k =>
      s.modTask (i / 16) (fun x => { x with bb := tset 0 x.bb (i % 16 * 256 + k) (fieldW page (4 * k)) })) s
  | 5 => putRegion i page s
  | 6 => objs 64 16 (fun n b s => putTimer n (field b 0 6) (fieldB b 8) s) s
  | 7 => if pageEngine a < 24 then
      s.modEngine (pageEngine a) (fun e => { e with local_ := writeBytes e.local_ (1024 * i) page }) else s
  | 8 => { s with shared := writeBytes s.shared (1024 * i) page }
  | 9 => s.modEngine safeEng (fun e => { e with local_ := writeBytes e.local_ (1024 * i) page })
  | 10 => putForces i page s
  | 11 => objs 64 16 putStation s
  | 12 => objs 4 256 putConnArea s
  | 13 => setTimebase (field page 0 8) (BitVec.ofNat 64 (field page 8 8)) s
  | _ => s

/-- An entry of a DELTA record (Table 11-16). -/
def putDelta (s : State) (e : DeltaEntry) : State :=
  let n := e.index.toNat
  let b := e.state
  let out := decide (32768 ≤ n)
  let w := n % 32768
  match e.kind.toNat with
  | 1 => putTimer n (field b 0 6) (fieldB b 6) s
  | 2 => putStation n b s
  | 3 => putConn n b s
  | 4 => putSent n b s
  | 5 =>
    let rest := s.img.forces.filter (fun f => f.out != out || f.num != w)
    { s with img := { s.img with forces := if field b 4 1 = 1 then rest ++ [⟨out, w, fieldW b 0, 0⟩] else rest } }
  | 6 =>
    let rest := s.img.sims.filter (fun f => f.num != w)
    { s with img := { s.img with
        sims := if field b 5 1 = 1 then rest ++ [⟨false, w, fieldW b 0, BitVec.ofNat 2 (field b 4 1)⟩] else rest } }
  | _ => s

end Sys2Proof.Machine
end

