-- ==== Sys2Proof/Machine/Pair.lean ====
section
/-! DEFINITION. The hot-standby pair (chapter 11): interlock and token, roles, takeover and handover, the Trelex link and
what each record does in the standby, resynchronisation, the redundancy block. -/

namespace Sys2Proof.Machine

/-- A partner is known that R8 does not refuse. -/
def goodPartner (s : State) : Bool := match s.red.partner with | some h => compatible s h | none => false
def partnerActive (s : State) : Bool :=
  s.red.linkUp && (match s.red.partner with | some h => h.state == 2 | none => false)
def setRedSt (r : RedSt) (s : State) : State := { s with red := r }

/-! ### Resynchronisation of the standby (Table 11-9) -/

/-- The image load of a resynchronisation that is given up ends. -/
def dropResync (s : State) : State :=
  match s.cfg.job with
  | some j => if j.resync.isSome then setCfgLoad 0 0 0 0 { s with cfg := { s.cfg with job := none } } else s
  | none => s
/-- Step 1 anew: nothing of an earlier replay stays, and no load of step 2 (R290). -/
def enterSyncing (why : Byte) (s : State) : State :=
  let s := setRed .syncing false false (dropResync s)
  let r := s.red
  setRedSt { r with
    ilOut := false, claiming := false, waitFree := false, handover := none, step := 1, why := why, stepMs := s.opMs
    cutNs := none, failed := false, compared := 0, matched := 0, lag := 0, lagMax := 0, resyncs := satInc r.resyncs
    hidden := [], reads := [], marks := [], compares := [], kept := [], fetched := [], taken := [], delta := [], held := [] } s

/-- Step 3: the active module is asked to copy. -/
def askCopy (s : State) : State :=
  control 0x0B [s.red.why, 0, 0, 0] (setRedSt { s.red with step := 3, copyNs := s.now } s)

/-- Step 1 has its HELLO: step 2 when the image differs, else step 3. The bytes received are a free value, and the load begins with
bytes of the partner's DIGEST; with others the image is not there yet (log 17). CFG_LOAD and CFG_LOAD_DIGEST as in every load. -/
def resyncHello (h : HelloMsg) (s : State) : State :=
  if h.gen = s.gen ∧ h.digest = s.run.digest then askCopy s
  else if s.cfg.job.isSome then s
  else
    let bytes := Config.partnerImage h.digest s.free
    let s := setRedSt { s.red with step := 2 } { s with free := s.free + 1 }
    if imageDigest bytes ≠ h.digest then s
    else
      setCfgLoad 0 2 1 0 { s with cfg := { s.cfg with job := some { bytes := bytes, resync := some h.gen }, digest := digestWord bytes } }

/-- The resynchronisation has failed: 1 image refused, 2 NO_CUT (R295). -/
def resyncFail (reason code : Byte) (s : State) : State :=
  let s := diaryRaise 0x9006 noInst [reason, 0, 0, 0, code, 0, 0, 0] s
  setRedSt { s.red with failed := true, failNs := s.now, step := 0, disq := if s.red.st = .syncing then dqResync else s.red.disq } s

/-- The module synchronises; with the active partner's HELLO known, step 1 is over. -/
def startSync (why : Byte) (s : State) : State :=
  let s := enterSyncing why s
  match s.red.partner with
  | some h => if partnerActive s && compatible s h then resyncHello h s else s
  | none => s
/-- No self-test of the module stands failed: no region in fault state, no SAFE_STOP (R289). -/
def standbyFit (s : State) : Bool := regionIds.all (fun r => (s.region r).st != .fault) && s.safe.st != .stop
/-- A module that becomes a standby; one with a failed self-test is disqualified (R289). -/
def joinStandby (why : Byte) (s : State) : State :=
  if standbyFit s then startSync why s else disqualify dqSelftest (enterSyncing why s)

/-- RESYNC_RETRY (R295): 10 s after the failure. -/
def execResyncRetry (s : State) : Out :=
  .next (if s.red.st ≠ .syncing ∨ !s.red.failed ∨ s.now < s.red.failNs + 10000000000 then s else startSync 3 s)

/-! ### Roles -/

/-- A partner refused under R8: INCOMPATIBLE (R289). -/
def refusePartner (s : State) : State :=
  let s := if s.red.disq = dqIncompatible then s
    else diaryRaise 0x9002 noInst ([7, 0, 0, 0] ++ wordBytes s.red.mmWhere ++ wordBytes s.red.mmAct) s
  let s := setRedSt { s.red with disq := dqIncompatible } s
  if s.red.token then s else setRed .held false false s

/-- The token is held from ARBITRATING or HELD: ACTIVE, tasks and station cycles start (R274). -/
def startActive (s : State) : State :=
  let s := setRed .active true true { s with red := { s.red with ilOut := true, claiming := false, waitFree := false } }
  releaseTasks s

/-- A READY standby holds the token (R292): ACTIVE, station and plant inputs from the replica, own sources from then on. -/
def takeOver (s : State) : State :=
  let s := setRed .active true true { s with red := { s.red with ilOut := true, claiming := false, waitFree := false } }
  let so : BitVec 4 := if s.red.so = 0 then 1 else s.red.so
  let ns := satOf 32 (s.now - s.red.freeNs + 2000)
  let iw := (s.red.replica.filter (fun e => 256 ≤ e.1)).foldl (fun t e => tset {} t e.1 e.2) (tdrop (256 ≤ ·) s.img.iw)
  let s := { s with img := { s.img with iw := iw } }
  let s := setRedSt { s.red with
    so := so, soTime := ns, switches := satInc s.red.switches, hidden := [], reads := [], marks := [], compares := []
    fetched := [], taken := [], step := 0, cutNs := none, lag := 0 } s
  refreshMirrors (diaryRaise 0x9001 noInst ([so.setWidth 8, 0, 0, 0] ++ wordBytes ns) (dcInc 6 s))

/-- The token is this module's (R276). -/
def holdToken (s : State) : State := if s.red.st = .ready then takeOver s else startActive s

/-- Step 1 of a takeover: what the active module has not finished is aborted (R88, R292). -/
def abortReplay (s : State) : State :=
  let s := taskIds.foldl (fun s t =>
    if (s.task t).busy then
      (abortTask t s).modTask t (fun x => { x with st := .idle })
    else s) s
  let regions := regionIds.foldl (fun s r => s.modRegion r (fun x => if x.st = .running then { x with st := .idle } else x)) s
  { regions with img := { regions.img with lane := [] } }

/-- The standby has replayed every activation whose COMPARE record has arrived. -/
def replayDone (s : State) : Bool := s.red.compares.all (fun e => e.1.result == 2)

/-- A READY standby claims when IL_IN reads RELEASED and the replay is complete (R276, R281, R292). In Dusk, and once a reset is
ordered, IL_OUT stays released (R279). -/
def tryClaim (s : State) : State :=
  if s.running ∧ s.red.st = .ready ∧ s.red.il = .released ∧ !s.red.claiming ∧ !s.red.waitFree ∧ !s.red.conflict ∧ s.red.retryNs ≤ s.now
    ∧ replayDone s then
    let s := abortReplay s
    setRedSt { s.red with claiming := true, claimNs := s.now, ilOut := true } s
  else s

/-- ARBITRATION_END (R274): 100 ms of ARBITRATING. -/
def execArbitrationEnd (s : State) : Out :=
  .next (
    if !pairOn s ∨ !s.running ∨ s.red.st ≠ .arbitrating ∨ s.red.claiming ∨ s.now < s.red.arbNs + 100000000 then s
    else if s.red.il = .held ∨ partnerActive s then joinStandby 1 s
    else if s.red.il = .open_ ∨ s.red.il = .short then
      diaryRaise 0x9003 noInst [BitVec.ofNat 8 s.red.il.code] (setRed .held false false s)
    else if s.red.notFree ∨ s.red.conflict then setRedSt { s.red with notFree := false } s
    else setRedSt { s.red with claiming := true, claimNs := s.now, ilOut := true } s)

/-- HELD_TO_ACTIVE (R274): IL_IN has read RELEASED for 100 ms. The module comes to the token by a claim, as R276 gives
(DEDUCED, log 20). A module that refuses its partner stays in HELD (R289). -/
def execHeldToActive (s : State) : Out :=
  .next (
    if pairOn s ∧ s.running ∧ !refused s ∧ s.red.st = .held ∧ s.red.il = .released ∧ s.red.freeNs + 100000000 ≤ s.now ∧ !s.red.conflict ∧ !s.red.claiming
      ∧ !s.red.waitFree ∧ s.red.retryNs ≤ s.now then
      setRedSt { s.red with claiming := true, claimNs := s.now, ilOut := true } s
    else s)

/-- A claim that is given up; a module that loses its claim race at Dawn synchronises (R274, R276). -/
def withdraw (s : State) : State :=
  let s := setRedSt { s.red with claiming := false, waitFree := false, ilOut := false, retryNs := s.now + 1000000 } s
  if s.red.st = .arbitrating then joinStandby 1 s else s

/-- CLAIM_WINDOW_END (R276): 10 µs after the claim. -/
def execClaimWindowEnd (s : State) : Out :=
  .next (
    if !s.red.claiming ∨ s.now < s.red.claimNs + 10000 then s
    else match s.red.il with
      | .released => holdToken s
      | .held => if s.red.strapB then withdraw s else setRedSt { s.red with claiming := false, waitFree := true } s
      | _ => withdraw s)

/-! ### IL_IN (R275–R277, R280) -/

/-- Table 11-3, in units of 10 µA. -/
def ilBand (i : Half) : IlRead :=
  if i.toNat < 200 then .open_ else if i.toNat < 1000 then .released else if i.toNat < 2600 then .held else .short

/-- The active module reports a token pulse that it has seen. -/
def reportPulse (seen : Bool) (s : State) : State :=
  if s.red.pulseOpen then
    control 7 (wordBytes s.red.pulse ++ [if seen then 1 else 0, 0, 0, 0]) (setRedSt { s.red with pulseOpen := false } s)
  else s

/-- IL_IN_READING: a reading that has stood for 2 µs. -/
def execIlInReading (i : Half) (s : State) : Out :=
  .next (
    if !pairOn s then s
    else
      let b := ilBand i
      let s := setRedSt { s.red with
        il := b, il10uA := i, notFree := s.red.notFree || b != .released
        freeNs := if b = .released ∧ s.red.il ≠ .released then s.now else s.red.freeNs } s
      match s.red.st, b with
      | .active, .held => reportPulse true s
      | .active, _ => if s.red.token && !s.red.oe then setRed .active true true s else s
      | _, .held => if s.red.claiming && s.red.strapB then withdraw s else s
      | _, .released => if s.red.waitFree then holdToken s else tryClaim s
      | _, _ => s)

/-- IL_FAULT (R275). -/
def execIlFault (set : Bool) (s : State) : Out :=
  .next (
    if !pairOn s then s
    else if set then
      if s.red.ilFault ∨ s.red.il = .released ∨ s.red.il = .held then s
      else diaryRaise 0x9004 noInst ([1, BitVec.ofNat 8 s.red.il.code, 0, 0] ++ leBytes 4 s.red.il10uA.toNat)
        (setRedSt { s.red with ilFault := true } s)
    else if s.red.il = .released ∨ s.red.il = .held then setRedSt { s.red with ilFault := false } s
    else s)

/-- OE_LOSS (R277). -/
def execOeLoss (s : State) : Out :=
  .next (
    if s.red.st = .active ∧ s.red.oe ∧ s.red.il = .held then
      diaryRaise 0x9004 noInst ([2, BitVec.ofNat 8 s.red.il.code, 0, 0] ++ leBytes 4 s.red.il10uA.toNat) (setRed .active true false s)
    else s)

/-- TOKEN_PATH_PULSE (R280): announced before it is raised for 5 µs. -/
def execTokenPathPulse (s : State) : Out :=
  .next (
    if s.running ∧ s.red.st = .ready ∧ !s.red.claiming then
      let n := s.red.pulse + 1
      let s := control 6 (wordBytes n) (setRedSt { s.red with pulse := n } s)
      setRedSt { s.red with ilOut := true, pulseNs := some s.now } s
    else s)
/-- The pulse ends 5 µs after it was raised, unless a claim has taken IL_OUT over. -/
def pulseEnd (s : State) : State :=
  match s.red.pulseNs with
  | some t =>
    if s.now < t + 5000 then s
    else setRedSt { s.red with pulseNs := none, ilOut := s.red.claiming || s.red.waitFree || s.red.token } s
  | none => s

/-- TOKEN_PULSE at the active module: an earlier pulse not seen is reported as missed. -/
def recTokenPulse (n : Word) (s : State) : State :=
    if s.red.st = .active then
      let s := reportPulse false s
      setRedSt { s.red with pulse := n, pulseOpen := true } s
    else s

/-- TOKEN_REPORT at the standby: two pulses missed in a row disqualify it. -/
def recTokenReport (seen : Bool) (s : State) : State :=
    if s.red.st ≠ .ready then s
    else if seen then setRedSt { s.red with seen := s.red.seen + 1, missed := 0 } s
    else
      let s := setRedSt { s.red with missTotal := satInc s.red.missTotal, missed := s.red.missed + 1 } s
      if 2 ≤ s.red.missed then disqualify dqToken s else s

/-! ### Handover (R291) -/

/-- HANDOVER_RELEASE: no task in PUBLISH; activations in progress are aborted; the token, which Dusk may have taken already, is
released. -/
def handoverRelease (s : State) : State :=
  match s.red.handover with
  | none => s
  | some c =>
    if s.red.st ≠ .active ∨ !s.red.token ∨ taskIds.any (fun t => (s.task t).st == .publish) then s
    else
      let s := trelexClose (control 2 ([c.setWidth 8, 0, 0, 0] ++ leBytes 8 s.tbrd) s)
      let s := diaryRaise 0x9005 noInst ([c.setWidth 8, 0, 0, 0] ++ leBytes 8 s.tbrd) s
      let s := releaseToken (setRedSt { s.red with so := c } s)
      if c.toNat = soCommand then
        startSync 1 (abortReplay s)
      else resetUnsaved rcHandover 0xFF 0 true s

/-- HANDOVER at the standby: the cause of the takeover that follows. -/
def recHandover (soCause : Byte) (s : State) : State :=
  if standby s then tryClaim (setRedSt { s.red with so := soCause.setWidth 4 } s) else s

/-- RESYNC (R290): the status that answers it and the new state. -/
def resyncCommand (s : State) : Byte × State :=
  if !s.variant.redundancy then (6, s)
  else match s.red.st with
    | .disqualified => (1, resetSoon rcDisqualified 0 { s with red := { s.red with disqAt := [] } })
    | .held => if partnerActive s && goodPartner s then (1, startSync 2 s) else (7, s)
    | .single => (9, s)
    | .arbitrating => (9, s)
    | .active => (9, s)
    | _ => (1, startSync 2 (abortReplay s))

/-! ### The Trelex link (R283) -/

/-- TRELEX_FRAME_CLOSE. -/
def execTrelexFrameClose (s : State) : Out := .next (if pairOn s then trelexClose s else s)

/-- TRELEX_RETRANSMIT: a frame not acknowledged 20 µs after its sending goes out again with RETRANSMIT = 1, on the other lane when
that lane is up. -/
def execTrelexRetransmit (seq : Word) (s : State) : Out :=
  .next (
    let late (f : SentFrame) : Bool := f.seq == seq && decide (f.at_ + 20000 ≤ s.now)
    if !pairOn s ∨ !s.red.unacked.any late then s
    else
      let again (f : SentFrame) : SentFrame :=
        if late f then
          let b := f.bytes.take 1 ++ [1] ++ (f.bytes.drop 2).take (f.bytes.length - 6)
          { f with bytes := b ++ wordBytes (crc32c b), lane1 := if f.lane1 then !s.red.l0Up else s.red.l1Up, at_ := s.now }
        else f
      setRedSt { s.red with retrans := satInc s.red.retrans, unacked := s.red.unacked.map again } s)

/-- LANE_DOWN. -/
def execLaneDown (lane1 : Bool) (s : State) : Out :=
  .next (
    if !pairOn s then s
    else if lane1 then setRedSt { s.red with l1Up := false, down1 := satInc s.red.down1 } s
    else setRedSt { s.red with l0Up := false, down0 := satInc s.red.down0 } s)
/-- LANE_UP: with a lane up the link is up. -/
def execLaneUp (lane1 : Bool) (s : State) : Out :=
  .next (
    if !pairOn s then s
    else if lane1 then setRedSt { s.red with l1Up := true, linkUp := true } s
    else setRedSt { s.red with l0Up := true, linkUp := true } s)
/-- The link goes down: the standby is disqualified, the active module goes on alone. -/
def linkDown (s : State) : State :=
  let s := setRedSt { s.red with
    linkUp := false, partner := none, filling := [], unacked := [], rxSeq := none, rxNext := 0, frame := [], frameBad := false
    cutNs := none, delta := []
    step := if s.red.st = .active then 0 else s.red.step } s
  disqualify dqLink s
/-- LINK_DOWN: both lanes are down. -/
def execLinkDown (s : State) : Out :=
  .next (if pairOn s ∧ s.red.linkUp ∧ !s.red.l0Up ∧ !s.red.l1Up then linkDown s else s)

/-! ### HELLO (R294) -/

def fwVersion (s : State) : Word := mfVersion (runningBank s).manifest
def helloBytes (s : State) : List Byte :=
  [s.variant.code, if s.red.strapB then 1 else 0, BitVec.ofNat 8 s.red.st.code, 0] ++ halfBytes Config.pairProtocol ++ [0, 0]
    ++ wordBytes (fwVersion s) ++ wordBytes s.gen ++ padTo 32 s.run.digest

/-- HELLO_TIMER; an announced pulse that was not seen by now is reported missed. -/
def execHelloTimer (s : State) : Out :=
  .next (if pairOn s ∧ s.red.linkUp then control 1 (helloBytes s) (reportPulse false s) else s)

/-- TRELEX_HELLO. -/
def recTrelexHello (h : HelloMsg) (s : State) : State :=
    if !pairOn s ∨ !s.red.linkUp then s
    else
      let s := setRedSt { s.red with partner := some h, helloNs := some s.now, conflict := h.strapB == s.red.strapB } s
      if !compatible s h then refusePartner s
      else if h.state ≠ 2 then s
      else match s.red.st with
        | .syncing => if s.red.step = 1 ∨ s.red.step = 2 then resyncHello h s else s
        | .held => joinStandby 1 s
        | _ => s

/-! ### Records at the standby (R285–R288) -/

/-- The stream is being replayed; from the cut to the end of step 5 it is buffered (Table 11-9). -/
def taking (s : State) : Bool := standby s
def replicaWords (s : State) (ns : List Nat) : Tab ImgWord :=
  ns.foldl (fun p n => tset {} p n (tget {} s.red.replica n)) []

/-- WORDS: hidden until their writer's REFRESH. -/
def recWords (entries : List WordEntry) (s : State) : State :=
    if !taking s then s
    else setRedSt { s.red with
      hidden := entries.foldl (fun t e => if e.num < 32768 then tset none t e.num (some ⟨e.data, tagClean e.tag⟩) else t) s.red.hidden } s

/-- The words of a writer (Table 11-6): 0 hub, 1 network engine with its station, 2 host queue, 3 Trelex queue. -/
def writerOwns (s : State) (writer station n : Nat) : Bool :=
  match routeOf s.run false n with
  | none => true
  | some r => match writer with
    | 0 => r.endpoint == 0
    | 1 => r.endpoint == 1 && (match stnRec s station with | some b => (stInputs b).contains n | none => false)
    | 2 => r.endpoint == 6 || r.endpoint == 7
    | _ => r.endpoint == 5

/-- REFRESH: the writer's groups flip in the replica. -/
def recRefresh (writer : Fin 4) (st : StnId) (s : State) : State :=
    if !taking s then s
    else
      let own (e : Nat × Option ImgWord) : Bool := writerOwns s writer.val st.val e.1
      setRedSt { s.red with
        replica := (s.red.hidden.filter own).foldl (fun t e => tset {} t e.1 (e.2.getD {})) s.red.replica
        hidden := s.red.hidden.filter (fun e => !own e) } s

/-- The first activation after a start in the active module: the task starts here too (R114). -/
def syncStart (t : TaskId) (act : Word) (s : State) : State :=
  if act = 1 ∧ (s.task t).actCnt ≠ 0 ∧ (s.task t).st ≠ .rollCall ∧ (s.task t).st ≠ .running then
    startTask t false (glideBatch t s) else s

/-- MARK. -/
def recMark (t : TaskId) (kind : MarkKind) (act : Word) (s : State) : State :=
    if !taking s ∨ (s.tcfg t).kind = 0 then s
    else match kind with
      | .eventArrival => if standby s then eventArrive t s else s
      | .rollCall =>
        let s := syncStart t act s
        let s := setRedSt { s.red with marks := s.red.marks ++ [⟨t, false, act, replicaWords s (rollCallSet s t)⟩] } s
        if standby s then nextMark t s else s
      | .reflexCapture =>
        let s := syncStart t act s
        let ns := (s.tcfg t).trigger.toNat :: fabricInputs s t
        let s := setRedSt { s.red with marks := s.red.marks ++ [⟨t, true, act, replicaWords s ns⟩] } s
        if standby s then nextMark t s else s

/-- KIND and COUNT of Table 11-14. -/
def readOk (r : ReadRec) : Bool :=
  decide (1 ≤ r.kind.toNat) && decide (r.kind.toNat ≤ 7) && decide (1 ≤ r.values.length) && decide (r.values.length ≤ 252)
/-- READ: for the activation of the task's last MARK. -/
def recReadRecord (r : ReadRec) (s : State) : State :=
    if !taking s then s
    else
      let act := match (s.red.marks.filter (fun m => m.task == r.task)).getLast? with
        | some m => m.act
        | none => (s.task r.task).actCnt
      setRedSt { s.red with reads := s.red.reads ++ [(act, r)] } s

/-- KIND and length of Table 11-16. -/
def deltaOk (e : DeltaEntry) : Bool := decide (1 ≤ e.kind.toNat) && decide (e.kind.toNat ≤ 6) && e.state.length == 12
/-- DELTA. -/
def recDelta (entries : List DeltaEntry) (s : State) : State :=
  if taking s then entries.foldl putDelta s else s

/-- COMPARE: the active module's CRC waits for the standby's batch. -/
def recCompare (r : CompareRec) (s : State) : State :=
    if r.fromStandby ∨ !taking s then s
    else settleCompares (setRedSt { s.red with compares := s.red.compares ++ [({ r with result := 0 }, s.now)] } s)

/-- REPLAY_LAG_EXPIRY (R287): the active module flipped 1 ms ago, the standby has not. -/
def execReplayLagExpiry (t : TaskId) (s : State) : Out :=
  .next (
    match s.red.compares.find? (fun e => e.1.task == t && e.1.result == (0 : Byte)) with
    | some e =>
      if standby s ∧ e.2 + 1000000 ≤ s.now then
        let w := satOf 32 (s.now - e.2)
        disqualify dqLag (setRedSt { s.red with lag := w, lagMax := if s.red.lagMax.toNat < w.toNat then w else s.red.lagMax } s)
      else s
    | none => s)

/-- BATCH_FETCH at the active module: the kept batch in parts of 168 entries, an empty one as one part (R288). -/
def recBatchFetch (t : TaskId) (act : Word) (s : State) : State :=
    if s.red.st ≠ .active then s
    else match s.red.kept.find? (fun b => b.task == t.val && b.act == act) with
      | none => s
      | some b => (if b.entries = [] then [(0, [])] else parts 168 b.entries).foldl (fun s p =>
          control 9 ([BitVec.ofNat 8 t.val, 0] ++ leBytes 2 p.1 ++ wordBytes act ++ p.2.flatMap (fun e => entryBytes e.1 e.2)) s) s

/-- The first differing word of a mismatch. -/
def firstDiff (a b : List (Nat × ImgWord)) : Option ((Nat × ImgWord) × (Nat × ImgWord)) := (a.zip b).find? (fun p => p.1 != p.2)

/-- BATCH_DATA at the standby: with the batch complete, the first mismatch is recorded and the standby disqualified. -/
def recBatchData (t : TaskId) (first : Half) (act : Word) (entries : List WordEntry) (s : State) : State :=
    match s.red.kept.find? (fun b => b.task == t.val && b.act == act) with
    | none => s
    | some b =>
      if !standby s ∨ first.toNat ≠ s.red.fetched.length
        ∨ s.red.compares.all (fun e => !(e.1.task == t && e.1.act == act && e.1.result == (2 : Byte))) then s
      else
        let es : List (Nat × ImgWord) := entries.map (fun e => (e.num, ⟨e.data, tagClean e.tag⟩))
        let s := setRedSt { s.red with fetched := s.red.fetched ++ es } s
        if s.red.fetched.length < b.entries.length then s
        else
          let s := match firstDiff s.red.fetched b.entries with
            | some (a, o) =>
              if s.red.mismatches = 1 then setRedSt { s.red with
                mmWhere := natAt 24 t.val ||| natAt 0 (o.1 % 32768), mmAct := act, mmAData := a.2.data, mmATag := a.2.tag
                mmSData := o.2.data, mmSTag := o.2.tag } s
              else s
            | none => s
          disqualify dqMismatch s

/-- STATE: a page copied or final. -/
def recStatePage (addr : Word) (page : List Byte) (s : State) : State :=
  if s.red.st = .syncing ∧ 3 ≤ s.red.step ∧ page.length = 1024 then putPage addr page s else s

/-- REPORT: both modules show the latest Report Card. -/
def recReportCard (card : List Word) (s : State) : State :=
  if s.red.st = .active ∧ card.length = 16 then setRedSt { s.red with card := card } s else s
/-- REPORT_CARD_TIMER. -/
def execReportCardTimer (s : State) : Out :=
  .next (if taking s ∨ s.red.st = .syncing ∨ s.red.st = .disqualified then sendCard s else s)

/-- PARTNER: ENDPOINT 5 words enter the Trelex queue as one input batch with ORIGIN 5. A partner that R8 refuses forms no
pair. -/
def recPartner (entries : List WordEntry) (s : State) : State :=
  if pairOn s && goodPartner s then pushTrelex ⟨5, .none, entries⟩ s else s

/-- CUT: timebase and calendar of the active module (R286). -/
def recCut (tbrd clk : Dword) (s : State) : State :=
    if s.red.st = .syncing ∧ s.red.step = 3 then
      let ms : Word := BitVec.ofNat 32 (s.opMs - s.red.stepMs)
      let s := setTimebase tbrd.toNat clk s
      setRedSt { s.red with step := 5, cutNs := some s.now, resyncMs := ms, compared := 0, matched := 0, lagMax := 0 } s
    else s

/-- The records that the standby buffers from the cut: the stream of Table 11-7. -/
def isStream : PartnerRec → Bool
  | .words .. | .refresh .. | .mark .. | .read .. | .delta .. | .compare .. => true
  | _ => false
/-- A record of the stream takes effect. -/
def streamRecord (i : PartnerRec) (s : State) : State :=
  match i with
  | .words es => recWords es s
  | .refresh w st => recRefresh w st s
  | .mark t kind act => recMark t kind act s
  | .read r => recReadRecord r s
  | .delta es => recDelta es s
  | .compare r => recCompare r s
  | _ => s

/-- COPY_END: 0 ends step 5, and the replay of what was buffered begins (Table 11-9). -/
def recCopyEnd (pages : Word) (s : State) : State :=
    if s.red.st ≠ .syncing then s
    else if pages ≠ 0 ∨ s.red.step ≠ 5 then setRedSt { s.red with pages := pages.toNat } s
    else
      let held := s.red.held
      let s := setRed .comparing false false (setRedSt { s.red with step := 6, pages := 0, disq := 0, held := [] } s)
      held.foldl (fun s i => streamRecord i s) s

/-! ### Resynchronisation at the active module -/

def sendPage (s : State) (a : Word) : State := sendRecord 7 (wordBytes a ++ pageOf s a) s
/-- Pages whose value differs from what was sent. -/
def dirtyPages (s : State) : List (Word × List Byte) :=
  (s.red.copied.map (fun e => (e.1, e.2, pageOf s e.1))).filterMap (fun e => if e.2.1 = e.2.2 then none else some (e.1, e.2.2))

/-- RESYNC_REQUEST: step 3, one pass over every page. -/
def recResyncRequest (cause : Byte) (s : State) : State :=
    if s.red.st ≠ .active ∨ !s.red.linkUp ∨ !goodPartner s then s
    else
      let s := setRedSt { s.red with step := 3, why := cause, stepMs := s.opMs, copyNs := s.now, cutNs := none, failed := false, delta := [] } s
      let s := allPages.foldl sendPage s
      setRedSt { s.red with copied := allPages.map (fun a => (a, pageOf s a)) } s

/-- RESYNC_CUT (Table 11-9, steps 4 and 5): no task between its Roll Call and its flip, at most 4 MB unsent. -/
def execResyncCut (s : State) : Out :=
  .next (
    let quiet := taskIds.all (fun t => let x := (s.task t).st; x != .rollCall && x != .running && x != .publish)
    if s.red.st ≠ .active ∨ s.red.step ≠ 3 ∨ !quiet ∨ 4096 < (dirtyPages s).length then s
    else
      let d := dirtyPages s
      let s := control 0x0A (leBytes 8 s.tbrd ++ leBytes 8 (clkWord s.rtc).toNat) s
      let s := d.foldl (fun s e => sendRecord 7 (wordBytes e.1 ++ e.2) s) s
      let s := control 0x0C [0, 0, 0, 0] s
      setRedSt { s.red with step := 0, cutNs := some s.now, copied := [], kept := [], delta := [], taken := [] } s)

/-- NO_CUT (R295): no cut edge within 10 s, counted from the start of step 3 (log 17). -/
def execNoCut (s : State) : Out :=
  .next (if (s.red.st = .active ∨ s.red.st = .syncing) ∧ s.red.step = 3 ∧ s.red.copyNs + 10000000000 ≤ s.now then resyncFail 2 0 s
    else s)

/-! ### Registers (Tables 11-10, 11-11) -/

def redStatus (s : State) : Word :=
  let r := s.red
  let heard := match r.helloNs with | some t => decide (s.now < t + 100000000) && r.partner.isSome | none => false
  natAt 28 r.st.code ||| boolBit 27 r.oe ||| boolBit 26 r.token ||| natAt 24 r.il.code ||| boolBit 23 r.strapB
    ||| boolBit 22 r.ilFault ||| boolBit 21 r.l1Up ||| boolBit 20 r.l0Up ||| boolBit 19 heard ||| boolBit 18 r.conflict
    ||| atBit 8 r.disq ||| atBit 4 r.so

/-- The block but for RED_LINK_LOAD, a measured value. -/
def redReg (s : State) (o : Nat) : Word :=
  if !s.variant.redundancy then 0
  else if 0x100 ≤ o ∧ o < 0x140 then s.red.card.getD ((o - 0x100) / 4) 0
  else match o with
  | 0x00 => redStatus s
  | 0x04 => s.red.il10uA.setWidth 32
  | 0x0C => s.red.lag
  | 0x10 => s.red.soTime
  | 0x14 => s.red.switches
  | 0x18 => s.red.retrans
  | 0x1C => atBit 16 s.red.down1 ||| atBit 0 s.red.down0
  | 0x20 => s.red.scanSeq
  | _ => 0

end Sys2Proof.Machine
end

