-- ==== Sys2Proof/Machine/Load.lean ====
section
/-! DEFINITION. Loading an image (Table 2-16): the check of stages 2 to 6, the partner and the commit of a pair (R46), stages 8
to 14 (R40–R46, R146, R404), region restart (R52, Table 2-24). -/

namespace Sys2Proof.Machine

/-! ### The staging area (R359, chapter 12) -/

def sectorsOf (bytes : Nat) : Nat := (bytes + 65535) / 65536
/-- Staging sectors in use: the update records, the running image and its edits, the rollback area, the package, the uploads
and the load in progress. -/
def stagingSectors (s : State) : Nat :=
  2 + s.stor.stagingUsed + (if s.upd.rollback.isSome then 36 else 0)
    + (match s.upd.pkg with | some p => p.chunks.length | none => 0)
    + (match s.mb.upload with | some u => u.segs | none => 0)
    + (match s.cfg.job with | some j => sectorsOf j.bytes.length | none => 0)
def stagingFull (s : State) : Bool := decide (1024 ≤ stagingSectors s)

/-! ### CFG_LOAD -/

def cfgLoad (s : State) : Word := atBit 24 s.cfg.section_ ||| atBit 8 s.cfg.stage ||| atBit 0 s.cfg.status
def setJob (j : Option LoadJob) (s : State) : State := { s with cfg := { s.cfg with job := j } }
def stageNow (stage : Byte) (s : State) : State := setCfgLoad 0 stage 1 0 s

/-- A load or edit is between stage 1 and its end (R42); in TRIAL neither is accepted (R362). -/
def loadBusy (s : State) : Bool := s.cfg.job.isSome || s.upd.st == .trial

/-- Stage 1 ends: the image goes through stages 2 to 6. -/
def beginLoad (bytes session : List Byte) (s : State) : State :=
  let s := stageNow 2 (setJob (some { bytes := bytes, delta := hdrDelta bytes, session := session }) s)
  { s with cfg := { s.cfg with digest := digestWord bytes } }

/-- A refusal: reported in CFG_LOAD and the Diary; nothing that runs changes (R40). In resynchronisation it is
RESYNC_FAILED (Table 11-9). -/
def loadRefuse (e : LoadErr) (s : State) : State :=
  let resync := match s.cfg.job with | some j => j.resync.isSome | none => false
  let s := setCfgLoad e.sec e.stage e.status (BitVec.ofNat 32 e.detail) (setJob none s)
  let s := { s with red := { s.red with loadCheck := none } }
  let s := diaryRaise 0x0004 noInst (wordBytes (cfgLoad s) ++ wordBytes s.cfg.detail) s
  if resync then resyncFail 1 e.status s else s

/-! ### Stage 8 -/

/-- Every task ends at the end of its current activation (stage 8); a task in FAULT keeps its cause (R116). -/
def enterStop (j : LoadJob) (s : State) : State :=
  let s := stageNow 8 (setJob (some { j with phase := .stopping }) s)
  taskIds.foldl (fun s t => stopAtEnd t 6 s) s
def tasksStopped (s : State) : Bool :=
  taskIds.all (fun t => let x := (s.task t).st; x == .unused || x == .stopped || x == .fault)
    && regionIds.all (fun r => !(s.region r).wave)

/-- The activation of the commit has ended here, or its task runs no more (R46). -/
def commitReached (s : State) (c : Nat × Word) : Bool :=
  let x := s.task c.1
  x.st == .unused || x.st == .stopped || x.st == .fault || ahead x.actCnt c.2 || (x.actCnt == c.2 && !x.busy)
def maybeStop (s : State) : State :=
  match s.cfg.job with
  | some j => (match j.phase, j.commit with
    | .commit, some c => if commitReached s c then enterStop j s else s
    | _, _ => s)
  | none => s

/-- The highest-priority task that runs (R46). -/
def topTask (s : State) : Nat :=
  ((taskIds.filter (fun t => let x := (s.task t).st; x != .unused && x != .stopped && x != .fault)).find? (fun t =>
    taskIds.all (fun u => let x := (s.task u).st; x == .unused || x == .stopped || x == .fault || rankBefore s t u))).getD 0

/-! ### Stages 2 to 7 -/

def checkMsg (j : LoadJob) (result : Byte) : List Byte :=
  [if j.delta then 2 else 1, result, 0, 0] ++ padTo 32 (imageDigest j.bytes)

/-- Both modules have passed on one digest. The active module names the activation of the commit; an edit is stored. -/
def partnerPassed (j : LoadJob) (s : State) : State :=
  let s := { s with red := { s.red with loadCheck := none } }
  if j.delta then stageNow 15 (setJob (some { j with phase := .storing }) s)
  else if s.red.st = .active then
    let t := topTask s
    let b := (s.task t).actCnt + 1
    let s := control 4 ([BitVec.ofNat 8 t, 0, 0, 0] ++ wordBytes b) s
    maybeStop (setJob (some { j with phase := .commit, commit := some (t, b) }) s)
  else s

/-- The partner's LOAD_CHECK meets the check made here (R46, R166). -/
def matchPartner (s : State) : State :=
  match s.cfg.job, s.red.loadCheck with
  | some j, some c =>
    if j.phase ≠ .partner ∨ c.1 ≠ j.delta ∨ c.2.2 ≠ imageDigest j.bytes then s
    else if c.2.1 = 0 then partnerPassed j s else loadRefuse ⟨7, 0, lsPartner, 0⟩ s
  | _, _ => s

/-- IMAGE_CHECK_DONE (R40, R403): stages 2 to 6 refuse the image, or it goes on to the partner, the commit or the store. -/
def imageCheckDone (s : State) : State :=
  match s.cfg.job with
  | none => s
  | some j =>
    if j.phase ≠ .checking then s
    else
      let r := checkImage s j.bytes
      let pair := pairLoads s && j.resync.isNone
      let code : Byte := match r with | some e => e.status | none => 0
      let s := if pair then control 3 (checkMsg j code) s else s
      match r with
      | some e => loadRefuse e s
      | none =>
        let d := readDelta s.run j.bytes
        let j := if j.delta then { j with edit := d, new_ := d.new_ } else { j with new_ := readContent {} j.bytes }
        if pair then matchPartner (stageNow 7 (setJob (some { j with phase := .partner, staged := s.now }) s))
        else if j.delta then stageNow 15 (setJob (some { j with phase := .storing }) s)
        else enterStop j s
def execImageCheckDone (s : State) : Out := .next (imageCheckDone s)

/-- LOAD_CHECK (R46). -/
def recLoadCheck (delta : Bool) (result : Byte) (digest : List Byte) (s : State) : State :=
  if pairLoads s then matchPartner { s with red := { s.red with loadCheck := some (delta, result, digest) } } else s

/-- LOAD_COMMIT (R46): the activation after which this module enters stage 8 too. -/
def recLoadCommit (t : TaskId) (act : Word) (s : State) : State :=
  match s.cfg.job with
    | some j =>
      if pairLoads s ∧ s.red.st ≠ .active ∧ j.phase = .partner ∧ !j.delta then
        maybeStop (setJob (some { j with phase := .commit, commit := some (t.val, act) }) s)
      else s
    | none => s

/-- PARTNER_REFUSED (R46): no answer within 2 s of this module's own check (log 2). -/
def execPartnerRefused (s : State) : Out :=
  .next (match s.cfg.job with
    | some j => if j.phase = .partner ∧ j.staged + 2000000000 ≤ s.now then loadRefuse ⟨7, 0, lsPartner, 0⟩ s else s
    | none => s)

/-! ### Stages 9 to 14 -/

/-- Stage 12: channel records and network settings. -/
def setupEdges (old : ImageCfg) (s : State) : State := setupNetwork old (chanIds.foldl (fun s c => newRecord c s) s)
/-- Those of an edit (R149). -/
def editEdges (old : ImageCfg) (s : State) : State := setupStations old (chanIds.foldl (fun s c => newRecord c s) s)

/-- What the load does to the pair state: a module whose PAIR changes begins anew (log 20), a standby resumes from step 3
(R296), a module without the token holds its tasks. -/
def loadRole (old : ImageCfg) (s : State) : State :=
  if !pairOn s then (if old.pair then setRed .single false false (releaseToken s) else s)
  else match s.red.st with
    | .single => holdTasks (setRed .arbitrating false false { s with
        red := { s.red with notFree := false, claiming := false, arbNs := s.now }, sup := { s.sup with dawning := false } })
    | .active => s
    | .arbitrating => holdTasks s
    | .held => holdTasks s
    | .disqualified => holdTasks s
    | _ => askCopy (if s.red.st = .syncing then s else enterSyncing 1 s)

/-- A safety task does not start unless the subsystem runs (R246, R248, R271). -/
def holdSafety (s : State) : State :=
  if s.safe.st = .run then s
  else (safetyTasks s).foldl (fun s t => raiseTaskStop t 2 (s.modTask t (fun x => { x with st := .fault, cause := 2 }))) s

/-- The safety subsystem with the new program (R116, Table 10-9): LOADING, then RUN. In SAFE_STOP it stays there, and a self-test
in progress goes on: the new program runs once it has passed (R247, R248). -/
def safeLoad (s : State) : State :=
  if s.safe.st = .stop ∨ s.safe.st = .selftest then startPairs s else safeEnter (if s.run.safety.isSome then setSafe .loading s else s)

/-- How CFG_LOAD ends (R43): the failure and its region, or OK. -/
def loadEnd (r : RegionTest) (s : State) : State :=
  match regionIds.find? (fun n => r.selftestFail.getLsbD n), r.frameFail.head? with
  | some n, _ => setCfgLoad 0 14 lsSelftest (BitVec.ofNat 32 n) s
  | none, some e => setCfgLoad 0 14 lsFrameLoad (BitVec.ofNat 32 e.1.val) s
  | none, none => setCfgLoad 0 14 lsOk 0 s

/-- Stage 13: the image activation record; what it makes void is discarded (R44). -/
def recordImage (j : LoadJob) (s : State) : State :=
  let s := { s with
    cfg := { s.cfg with flash := s.run, flashGen := s.gen, edits := [], lastEdit := none, consolid := false }
    stor := { s.stor with stagingUsed := sectorsOf j.bytes.length } }
  let s := diaryRaise 0x0003 noInst (wordBytes s.gen ++ padTo 16 s.run.digest) (dcInc 4 s)
  logActivated s.gen j.session s

/-- Stages 8 (its end) to 14. A standby of which a self-test has failed is disqualified (R289). -/
def loadCommitted (j : LoadJob) (r : RegionTest) (s : State) : State :=
  let old := s.run
  let s := retainSave (glideRoutes (old.routes.filter (·.out)) s)
  let second := match newerBank s (fun b => b.valid && b.crcOk) with | some b => b | none => false
  let objs := (bankOf s second).objs
  let gen := match j.resync with | some g => g | none => s.gen + 1
  let s := { s with run := j.new_, gen := gen }
  let s := setupTimers (setupMemories (setupRegions r s))
  let s := objs.foldl (carryObj old) (setupWords old s)
  let s := if retainOwners s = [] then setRetResult false 0 s else setRetResult second retCarried s
  let s := safeLoad (recordImage j (setupEdges old s))
  let s := loadRole old (holdSafety (setupTasks s))
  let s := loadEnd r (setJob none (refreshMirrors s))
  if s.red.st = .syncing ∧ !standbyFit s then disqualify dqSelftest s else s

/-- LOAD_STOP_DONE (R43): every task has stopped. -/
def execLoadStopDone (r : RegionTest) (s : State) : Out :=
  .next (match s.cfg.job with
    | some j => if j.phase = .stopping ∧ tasksStopped s then loadCommitted j r s else s
    | none => s)

/-! ### Region restart (R52, Table 2-24) -/

/-- The command is accepted: the owning task ends at the end of its current activation; a task already stopped stays so. -/
def regionRestart (r : Nat) (s : State) : State :=
  let s := s.modRegion r (fun x => { x with restart := .stopping })
  match regionOwner s.run r with
  | some t => stopAtEnd t 7 s
  | none => s
/-- The owning task has stopped and its wave has ended (R79), so the self-test begins: state bits cleared. -/
def regionQuiet (s : State) (r : Nat) : Bool :=
  match regionOwner s.run r with
  | some t => let x := (s.task t).st; x == .stopped || x == .fault || x == .unused
  | none => true
def regionTestStart (r : Nat) (s : State) : State :=
  if (s.region r).restart = .stopping ∧ regionQuiet s r ∧ !(s.region r).wave then
    s.modRegion r (fun x => { x with restart := .selftest, st := .selftest, bits := [], parity := [] })
  else s

/-- REGION_SELFTEST_DONE: pass goes on to the load; failure leaves the region faulted and its task stopped, and asks the health
policy (R289, Table 11-8). -/
def regionSelftestDone (r : Nat) (pass : Bool) (s : State) : State :=
  let s := regionTestStart r s
  if (s.region r).restart ≠ .selftest then s
  else if pass then s.modRegion r (fun x => { x with restart := .loading, st := .loading })
  else
    healthRequest soRegion
      (regionFault r (rgFaultBlock 5 false 0 0) (s.modRegion r (fun x => { x with restart := .none, st := .idle, fault := 0 })))

/-- The restart of a region is over: its task starts, keeping its Blackboard, when no region of it is faulted or restarting. It starts
also while a full load is in stage 8, which the spec leaves open (DESIGN CHOICE, log 42). -/
def regionTaskStart (r : Nat) (s : State) : State :=
  match regionOwner s.run r with
  | some t =>
    if regionFaulted s t || regionRestarting s t then s
    else if (s.tcfg t).kind == 4 && s.safe.st != .run then s
    else if (s.task t).st = .stopped ∨ (s.task t).st = .fault then startTask t true s else s
  | none => s

/-- REGION_LOAD_DONE: planes from the running image, state bits from INIT (R43, R52, R66). -/
def regionLoadDone (r : Nat) (retries : Nat) (failed : Option (Bool × Fin 64)) (s : State) : State :=
  if (s.region r).restart ≠ .loading then s
  else
    let s := addRetries r retries (regionStart r (loadPlanes r (s.modRegion r (fun x => { x with restart := .none }))))
    let s := regionIdle r s
    match failed with
    | some f => healthRequest soRegion (regionFault r (rgFaultBlock 2 f.1 f.2.val 0) s)
    | none => regionTaskStart r s

end Sys2Proof.Machine
end

