-- ==== Sys2Proof/Machine/Edit.lean ====
section
/-! DEFINITION. An online edit from the check on: stages 15 to 19 (Table 6-8), Recess and what crosses it (R154–R168), the edit
records (Table 6-10), the consolidation (R160). -/

namespace Sys2Proof.Machine

/-! ### Edit records -/

/-- A record of the edit (R160). FLAGS bit 0 says that B was agreed, also when the partner is lost and the edit applied alone (DESIGN CHOICE,
log 29). -/
def editRecord (kind : Nat) (j : LoadJob) (s : State) : State :=
  let pair := kind = 2 ∧ j.commit.isSome
  let r : EditRec := ⟨kind, hdrGen j.bytes, hdrBase j.bytes, imageDigest j.bytes, j.edit.task, pair, if kind = 2 then j.act else 0,
    powerCycles s, sectorsOf j.bytes.length⟩
  { s with cfg := { s.cfg with edits := s.cfg.edits ++ [r] } }

/-- The job that `k` takes on, when an edit stands in phase `p`. -/
def editIn (s : State) (p : LoadPhase) : Option LoadJob := s.cfg.job.filter (fun j => j.delta && decide (j.phase = p))

/-- A stored edit is given up: DISCARDED record, the delta erased, both Diary records (R159); an activation that waited for
Recess starts. A shadow plane that is ready stays so (DESIGN CHOICE, log 29). -/
def discardEdit (e : LoadErr) (j : LoadJob) (s : State) : State :=
  let s := loadRefuse e (editRecord 3 j s)
  let s := { s with stor := { s.stor with stagingUsed := s.stor.stagingUsed - sectorsOf j.bytes.length } }
  nextStart (Fin.ofNat 32 j.edit.task)
    (diaryRaise 0x0006 (BitVec.ofNat 16 j.edit.task) (wordBytes (hdrGen j.bytes)) s)

/-! ### Stages 15 and 16 -/

/-- The regions whose shadow plane the edit fills. -/
def swapRegions (j : LoadJob) : List Nat := (j.edit.blocks.map (·.1)).eraseDups
/-- The load writes the new configuration into the shadow plane, which is not verified before its read-back (R49, log 29). Blocks
that the edit does not change are written clean, also where a bit of the active plane stands upset (DESIGN CHOICE, log 42). -/
def fillShadow (j : LoadJob) (s : State) (r : Nat) : State :=
  s.modRegion r (fun x => { x.setShadow (imagePlane j.new_ r) with
    shadowReady := false, flips := x.flips.filter (fun b => b.plane1 == x.plane1) })
/-- The read-back of the shadow plane matches unless a bit of it has been upset since it was written (R49). -/
def readBack (j : LoadJob) (s : State) (r : Nat) : State :=
  s.modRegion r (fun x =>
    if x.flips.all (fun b => b.plane1 == x.plane1) then { x with shadowReady := true, shadowGen := hdrGen j.bytes } else x)

/-- EDIT_STORED (Table 6-8): the STORED record and the delta are in flash and the load of the shadow planes starts, or
STORE_FAILED. -/
def execEditStored (ok : Bool) (s : State) : Out :=
  .next (match editIn s .storing with
    | some j =>
      let p := stage (sectorsOf j.bytes.length) s
      if !ok || stagingFull s then loadRefuse ⟨15, 0, lsStore, 0⟩ s
      else if !p.1 then loadRefuse ⟨15, 0, lsStore, 0⟩ p.2
      else
        let s := p.2
        let s := editRecord 1 j { s with stor := { s.stor with stagingUsed := s.stor.stagingUsed + sectorsOf j.bytes.length } }
        stageNow 16 (setJob (some { j with phase := .staging }) ((swapRegions j).foldl (fillShadow j) s))
    | none => s)

/-- EDIT_STAGED (R154, R166): shadow planes filled and read back; the active module of a pair, when both have completed stage 16 (log 29),
names the activation B. -/
def execEditStaged (s : State) : Out :=
  .next (match editIn s .staging with
    | some j =>
      let t := j.edit.task
      let s := (swapRegions j).foldl (readBack j) s
      if pairLoads s ∧ s.red.st = .active then
        let k := (s.tcfg t).kind
        let b := (s.task t).actCnt + (if k = 1 ∨ k = 4 then 2 else 1)
        let s := control 5 ([BitVec.ofNat 8 t, 0, 0, 0] ++ wordBytes b) s
        stageNow 17 (setJob (some { j with phase := .waiting, staged := s.now, commit := some (t, b) }) s)
      else stageNow 17 (setJob (some { j with phase := .waiting, staged := s.now }) s)
    | none => s)

/-- EDIT_AGREE (R166): B for the standby. -/
def recEditAgree (t : TaskId) (b : Word) (s : State) : State :=
  match s.cfg.job with
    | some j => if j.delta ∧ pairLoads s ∧ s.red.st ≠ .active ∧ j.edit.task = t.val then setJob (some { j with commit := some (t.val, b) }) s else s
    | none => s

/-! ### The start of Recess -/

/-- The edited task stands at the boundary (R155): no activation or wave under way (R79), B − 1 published in a pair; its words
have left the reflex lane, so that no activation mixes two generations (R156). Dusk starts no Recess (Table 6-12). -/
def recessEdge (j : LoadJob) (s : State) : Bool :=
  let t := j.edit.task
  let x := s.task t
  s.running && x.st != .rollCall && x.st != .running && x.st != .publish && (taskRegions (s.tcfg t)).all (fun r => !(s.region r).wave)
    && !lanePending t s && editAgreed j s

/-- The regions of the task in either generation (Table 6-9). -/
def editRegions (j : LoadJob) (s : State) : List Nat :=
  regionIds.filter (fun r => (s.tcfg j.edit.task).regionMask.getLsbD r || (taskCfg j.new_ j.edit.task).regionMask.getLsbD r)
/-- The region that keeps Recess from starting (R50, R159). -/
def notReady (j : LoadJob) (s : State) : Option Nat :=
  (editRegions j s).find? (fun r => (s.region r).st == .fault || ((swapRegions j).contains r && !(s.region r).shadowReady))

/-- RECESS_START (R155, Table 6-9): planes swap at this edge and the old frames are read (R50, R164). With RESTART the task
stops instead, its outputs gliding (R153). -/
def execRecessStart (s : State) : Out :=
  .next (match editIn s .waiting with
    | some j =>
      let t := j.edit.task
      if !recessEdge j s then s
      else match notReady j s with
        | some r => discardEdit ⟨17, 0, lsRegionNotReady, r⟩ j s
        | none =>
          let old := (framesOf s.run t).map (fun e => (e.1, frameRead s e.2))
          let j := { j with phase := .recess, old := s.run, was := (s.task t).st, startNs := s.now, frames := old, wanted := (s.task t).wanted }
          let s := stageNow 18 (setJob (some j) s)
          if j.edit.map.restart then stopNow t 7 s
          else
            let s := s.modTask t (fun x => { x with st := .recess })
            let s := (editRegions j s).foldl (fun s r => s.modRegion r (fun x => { x with st := .recess })) s
            (swapRegions j).foldl (fun s r => s.modRegion r (fun x => { x with plane1 := !x.plane1, shadowReady := false })) s
    | none => s)

/-- RECESS_TIMEOUT (R159). -/
def execRecessTimeout (s : State) : Out :=
  .next (match editIn s .waiting with
    | some j => if j.staged + 30000000000 ≤ s.now then discardEdit ⟨17, 0, lsRecessTimeout, 0⟩ j s else s
    | none => s)

/-! ### State transfer (R162, R163) -/

/-- Does an edit change the block of a cell, by its address in region `r`? -/
def blockChanged (j : LoadJob) (r a : Nat) : Bool := j.edit.blocks.contains (r, a / 128)
/-- The start of a state cell in a changed block: the old value of its entry's OLD cell, else INIT or 0; and whether the
first wave primes it. `bit` and `primed` read the old state. -/
def cellStart (m : CarryMap) (bit primed : Nat → Bool) (g : Nat) (w : BitVec 128) : Bool × Bool :=
  match m.states.find? (fun e => e.2 == g) with
  | some e => (bit e.1, cellMode w == 4 && primed e.1)
  | none => if cellMode w = 4 then (false, !cellEdgeZero w) else (cellInit w, false)

/-- The new bits of region `r` and the edge memories to prime. -/
def moveBits (j : LoadJob) (bit primed : Nat → Bool) (r : Nat) (s : State) : State :=
  s.modRegion r (fun x =>
    let cells := x.active.cells.filter (fun e => blockChanged j r e.1 && cellUsed e.2 && cellMode e.2 != 0)
    let new_ := cells.map (fun e => (e.1, cellStart j.edit.map bit primed (r * 8192 + e.1) e.2))
    let bits := new_.foldl (fun t e => tset false t e.1 e.2.1) (tdrop (blockChanged j r) x.bits)
    { x with bits := bits, parity := bits
             prime := x.prime.filter (fun a => !blockChanged j r a) ++ (new_.filter (fun e => e.2.2)).map (·.1) })
def moveStates (j : LoadJob) (s : State) : State :=
  let bit (a : Nat) : Bool := tget false (s.region (a / 8192)).bits (a % 8192)
  let primed (a : Nat) : Bool := (s.region (a / 8192)).prime.contains (a % 8192)
  (swapRegions j).foldl (fun t r => moveBits j bit primed r t) s

/-! ### Timer transfer (R161) -/

/-- A mapped timer under its new record: elapsed time, IN, reset, Q and RUN move, the new preset applies. A timer only in the
new generation is idle, Q 0. -/
def movedTimer (old : TimerSt) (x : TimerSt) : TimerSt :=
  timerSettle { x with elapsed := old.elapsed, inp := old.inp, rst := old.rst, q := old.q, run := old.run, sat := old.sat }
def moveTimers (j : LoadJob) (s : State) : State :=
  let t := j.edit.task
  let mine := j.new_.timers.filter (fun c => c.owner.toNat == t)
  let start (c : TimerCfg) : TimerSt :=
    match j.edit.map.timers.find? (fun e => e.2 == c.timer) with
    | some e => movedTimer (s.timer e.1) (freshTimer j.new_ c)
    | none => { freshTimer j.new_ c with q := false }
  let fresh := mine.map (fun c => (c.timer, start c))
  if j.edit.has9 then
    fresh.foldl (fun s e => s.setTimer e.1 e.2) ((timersOf j.old t).foldl (fun s n => s.setTimer n {}) s)
  else mine.foldl (fun s c => s.setTimer c.timer { (s.timer c.timer) with fabric := fabricTimer j.new_ c.timer }) s

/-! ### Frames (R164, Tables 6-6 and 6-7) -/

/-- One element converted. -/
def convElem (c : Byte) (src : List Byte) : List Byte :=
  let v := ofLe src
  let d := match convSizes c with | some z => z.2 | none => 0
  let sx : Nat := (BitVec.ofNat (8 * src.length) v).signExtend 64 |>.toNat
  let k := c.toNat
  if 0x10 ≤ k ∧ k ≤ 0x15 then leBytes d sx
  else match k with
    | 0x30 => leBytes 8 (cvtTo .d (cvtSrc .s (BitVec.ofNat 64 v)) false).1.toNat
    | 0x31 => leBytes 8 (cvtTo .d (cvtSrc .w (BitVec.ofNat 64 v)) false).1.toNat
    | 0x32 => leBytes 8 (cvtTo .d (cvtSrc .wu (BitVec.ofNat 64 v)) false).1.toNat
    | 0x33 => leBytes 4 (cvtTo .s (cvtSrc .w (BitVec.ofNat 64 sx)) false).1.toNat
    | 0x34 => leBytes 4 (cvtTo .s (cvtSrc .wu (BitVec.ofNat 64 v)) false).1.toNat
    | _ => leBytes d v

/-- Bytes `b` put over `f` from offset `o`. -/
def patch (f : List Byte) (o : Nat) (b : List Byte) : List Byte := f.take o ++ b ++ f.drop (o + b.length)
def copyElems (old : List Byte) (x : CopyEntry) (f : List Byte) : List Byte :=
  match convSizes x.conv with
  | none => f
  | some z => (List.range x.count).foldl (fun f i =>
      patch f (x.newOff + i * z.2) (convElem x.conv ((old.drop (x.oldOff + i * z.1)).take z.1))) f

/-- A new frame: its initial content, and what its instance entry carries from the old frames. -/
def newFrame (m : CarryMap) (old : List (Nat × List Byte)) (n : Nat) (initial : List Byte) : List Byte :=
  match m.insts.find? (fun i => i.new_ == n) with
  | none => initial
  | some i =>
    let o := match old.find? (fun e => e.1 == i.old) with | some e => e.2 | none => []
    if i.copies = [] then padTo initial.length o else i.copies.foldl (fun f x => copyElems o x f) initial

/-- The initial content of a frame in the new generation: section 0x06 data, or 0. -/
def frameInitial (img : ImageCfg) (d : DescCfg) : List Byte :=
  readBytes (chunksOf img.data d.home.toNat) (frameBase d) d.size.toNat

def moveFrames (j : LoadJob) (s : State) : State :=
  if j.edit.has7 then
    (builtFrames j.old j.new_ j.edit.task j.edit.map).foldl (fun s e =>
      frameWrite e.2 (newFrame j.edit.map j.frames e.1 (frameInitial j.new_ e.2)) s) s
  else j.edit.data.foldl (fun s c =>
    if c.target = 0xFF then { s with shared := chunkBytes s.shared c }
    else s.modEngine c.target.toNat (fun x => { x with local_ := chunkBytes x.local_ c })) s

/-- Code writes (Table 6-9, step 4); a delta with a safety program loads it into SA and SB. -/
def writeCode (j : LoadJob) (s : State) : State :=
  let s := j.edit.code.foldl (fun s c => s.modEngine c.target.toNat (fun x => { x with iram := chunkBytes x.iram c })) s
  if j.edit.has12 then
    let g := j.new_.safety.getD {}
    s.modEngine 24 (fun x => { x with iram := writeBytes [] 0 g.code, local_ := writeBytes [] 0 g.data })
  else s

/-! ### The exit edge (R156, R161, R165, R149) -/

/-- Input words that only the new generation routes start as R404 gives (log 29); a word that the task newly owns keeps its data and
tag; the batch that sets GLIDE = 1 on the words that it no longer owns waits for the apply port (R139, R165, Table 6-11). -/
def moveWords (j : LoadJob) (s : State) : State :=
  let added := j.new_.routes.filter (fun r => !r.out && (routeOf j.old false r.num).isNone)
  let s := added.foldl (fun s r => s.setIw r.num (inInit r)) s
  let lost := (ownedRoutes j.old j.edit.task).filter (fun r => match routeOf j.new_ true r.num with
    | some e => e.owner.toNat != j.edit.task | none => true)
  let s := if lost = [] then s else { s with img := { s.img with lostWords := some (j.edit.task, lost) } }
  s.modTask j.edit.task (fun x => { x with bb := tdrop (fun n => (taskCfg j.new_ j.edit.task).bbWords.toNat ≤ n) x.bb })

/-- The task and its regions as they stand after Recess (R155, R158, R406): a due time that fell inside counts from now; a
region that went into fault state stays there, and a task that stopped for it stays stopped (R19, R20). Where the edit gains a region
that went into fault state while nobody owned it, the task goes on as before and its wave in that region does not start, which the spec
leaves open (DESIGN CHOICE, log 42). -/
def leaveRecess (j : LoadJob) (s : State) : State :=
  let t := j.edit.task
  let st := if (s.task t).st = .recess then j.was else (s.task t).st
  let rst : RegionState := if st = .idle then .idle else .stopped
  let s := (editRegions { j with new_ := j.old } s).foldl (fun s r =>
    s.modRegion r (fun x => if x.st = .fault then x
      else { x with st := if (regionOwner s.run r).isSome then rst else .unused })) s
  s.modTask t (fun x => { x with st := st, startNs := if x.wanted && !j.wanted then s.now else x.startNs })
/-- A stop that waited takes effect; else what was held as pending starts (R73, R113, R158). -/
def afterRecess (t : TaskId) (s : State) : State :=
  match (s.task t).stopReq with
  | some c => if (s.task t).st = .idle && !lanePending t s then stopTask t c s else s
  | none => nextStart t s

/-- The planes of regions swapped take the new generation number; with RESTART the regions restart (R153, R156), and one in fault
state that the task no longer owns stays in it (R20). -/
def exitRegions (j : LoadJob) (s : State) : State :=
  if j.edit.map.restart then
    let t := j.edit.task
    let rs := taskRegions (s.tcfg t)
    let gone := (editRegions { j with new_ := j.old } s).filter (fun r => (regionOwner s.run r).isNone)
    let s := gone.foldl (fun s r => s.modRegion r (fun x => if x.st = .fault then x else { x with st := .unused })) s
    if rs = [] then (if j.was = .idle then startTask t true s else s) else rs.foldl (fun s r => regionTestStart r (regionRestart r s)) s
  else leaveRecess j ((swapRegions j).foldl (fun s r => s.modRegion r (fun x => { x with gen := s.gen })) s)

/-- The first activation number on the new generation (R160): the one agreed in a pair, 1 where a start clears the counter, which a
RESTART, a stop or a fault brings (R114), else the next. -/
def firstAct (j : LoadJob) (s : State) : Word :=
  if j.edit.map.restart then 1
  else match j.commit with
    | some c => c.2
    | none => if j.was = .idle then (s.task j.edit.task).actCnt + 1 else 1
/-- RECESS_EXIT: steps 2 to 6 of Table 6-9 as they stand at the exit edge, then stage 19. A due time under a changed PERIOD_US lies
after that edge (R149). -/
def recessExit (s : State) : State :=
  match editIn s .recess with
  | none => s
  | some j =>
    let j := { j with
      phase := .recording
      act := firstAct j s }
    let old := (s.tcfg j.edit.task).period
    let s := if j.edit.map.restart then s else moveStates j s
    let s := moveWords j (moveFrames j (writeCode j (moveTimers j s)))
    let s := { s with run := j.new_, gen := s.gen + 1 }
    let s := if (s.tcfg j.edit.task).period = old then s else s.modTask j.edit.task (fun x => { x with lastDue := some s.tbrd })
    let s := editEdges j.old s
    let s := if j.edit.has12 then mergePairs j.old s else s
    stageNow 19 (setJob (some j) (afterRecess (Fin.ofNat 32 j.edit.task) (portKick (refreshMirrors (exitRegions j s)))))

/-! ### Stage 19 and the consolidation (R160) -/

/-- The APPLIED record's valid mark: the edit ends. -/
def applied (j : LoadJob) (s : State) : State :=
  let s := dcInc 5 (editRecord 2 j s)
  let s := { s with cfg := { s.cfg with
    flash := s.run, flashGen := s.gen, lastEdit := some (j.edit, hdrBase j.bytes), lastBase := j.old, consolid := true } }
  let s := diaryRaise 0x0005 (BitVec.ofNat 16 j.edit.task) (wordBytes s.gen ++ wordBytes j.act) s
  let s := if j.edit.has12 then logActivated s.gen j.session s else s
  setCfgLoad 0 19 lsOk 0 (setJob none s)
/-- APPLIED_RECORD. -/
def appliedRecord (s : State) : State :=
  match editIn s .recording with
  | some j => applied j s
  | none => s
def execAppliedRecord (s : State) : Out := .next (appliedRecord s)

/-- The length of a full image of the running generation, its chunks as they are held (log 29). -/
def imageLength (c : ImageCfg) : Nat :=
  let secs : List Nat :=
    [32, 1024, 16 * c.lessons.length, 16 * c.descs.length, 8 * c.routes.length, 16 * c.timers.length, 6144,
     if c.ring.isSome then 32 + 64 * c.stations.length else 0,
     (match c.safety with | some g => 16 + g.params.length + g.code.length + g.data.length | none => 0),
     (c.planes.map (fun e => 2060 * ((e.2.cells.map (fun x => x.1 / 128)).eraseDups).length
       + 12 * ((e.2.rws.map (fun x => x.1 / 256)).eraseDups).length + 8 * e.2.rws.length)).sum,
     (c.code.map (fun x => 12 + x.bytes.length)).sum, (c.data.map (fun x => 12 + x.bytes.length)).sum]
  (secs.map (fun n => if n = 0 then 0 else 32 + up16 n)).sum + 64 + 32

/-- CONSOLIDATION_DONE: the older image and the deltas that the new one covers are discarded. The map of the last edit is
kept for R168 (log 29). -/
def execConsolidationDone (s : State) : Out :=
  .next (
    let p := stage (sectorsOf (imageLength s.cfg.flash)) s
    if !s.cfg.consolid then s
    else if !p.1 then p.2
    else { p.2 with
      cfg := { s.cfg with consolid := false, edits := s.cfg.edits.filter (fun r => ahead r.gen s.cfg.flashGen) }
      stor := { p.2.stor with stagingUsed := sectorsOf (imageLength s.cfg.flash)
        + (match s.cfg.job with | some j => if j.delta && s.cfg.edits.any (fun r => ahead r.gen s.cfg.flashGen) then sectorsOf j.bytes.length else 0 | none => 0) } })

/-! ### At Dawn -/

/-- What a bank saved under the base of the last applied edit holds, turned into objects of the new generation (R168). -/
def carrySaved (d : DeltaCfg) (old new_ : ImageCfg) (os : List RetObj) : List RetObj :=
  let t := d.task
  let olds := os.filterMap (fun o => match o with | .frame i _ _ _ _ b => some (i, b) | _ => none)
  let bit (a : Nat) : Bool := os.any (fun o => match o with | .region r bits => r == a / 8192 && tget false bits (a % 8192) | _ => false)
  let mineT (n : Nat) : Bool := (timersOf old t).contains n
  let words := os.filter (fun o => match o with | .word _ _ _ => true | _ => false)
  let timers := os.filterMap (fun o => match o with
    | .timer n k e i q r =>
      if d.has9 && mineT n then (d.map.timers.find? (fun x => x.1 == n)).map (fun x =>
        let c := (new_.timers.find? (fun c => c.timer == x.2)).getD {}
        let y := movedTimer { elapsed := e, inp := i, q := q, run := r } (freshTimer new_ c)
        RetObj.timer x.2 k y.elapsed y.inp y.q y.run)
      else some (.timer n k e i q r)
    | _ => none)
  let regions := regionIds.filterMap (fun r =>
    let cells := retainedCells (imagePlane new_ r)
    if cells = [] then none
    else
      let v (a : Nat) : Bool :=
        if d.blocks.contains (r, a / 128) then
          (cellStart (if d.map.restart then {} else d.map) bit (fun _ => false) (r * 8192 + a) (tget 0 (imagePlane new_ r).cells a)).1
        else bit (r * 8192 + a)
      some (RetObj.region r (cells.foldl (fun b a => tset false b a (v a)) [])))
  let frames := (enumFrom 0 new_.descs).filterMap (fun e =>
    let x := e.2
    if !descRetained x then none
    else if d.has7 && x.owner.toNat == t then
      if d.map.insts.any (fun i => i.new_ == e.1 && olds.any (fun y => y.1 == i.old)) then
        some (RetObj.frame e.1 x.typeId x.layout x.size x.home (newFrame d.map olds e.1 (frameInitial new_ x)))
      else none
    else (olds.find? (fun y => y.1 == e.1)).map (fun y => RetObj.frame e.1 x.typeId x.layout x.size x.home y.2))
  words ++ timers ++ frames ++ regions

/-- The last applied edit as the restore of Dawn uses it. -/
def editCarry (s : State) : Option (Word × (List RetObj → List RetObj)) :=
  s.cfg.lastEdit.map (fun e => (e.2, carrySaved e.1 s.cfg.lastBase s.cfg.flash))

/-- STORED records that no later APPLIED or DISCARDED record ends. -/
def openStored : List EditRec → List EditRec
  | [] => []
  | r :: rest =>
    if r.kind = 1 ∧ !rest.any (fun q => q.kind != 1 && q.digest == r.digest && q.gen == r.gen) then r :: openStored rest else openStored rest
/-- A STORED record without its APPLIED record is void at Dawn, and its delta is erased (R167). -/
def voidEdits (s : State) : State :=
  (openStored s.cfg.edits).foldl (fun s r =>
    let s := { s with
      cfg := { s.cfg with edits := s.cfg.edits ++ [{ r with kind := 3, cycles := powerCycles s }] }
      stor := { s.stor with stagingUsed := s.stor.stagingUsed - r.sectors } }
    diaryRaise 0x0006 (BitVec.ofNat 16 r.task) (wordBytes r.gen) s) s

end Sys2Proof.Machine
end

