-- ==== Sys2Proof/Machine/Update.lean ====
section
/-! DEFINITION. Field update (chapter 15): the package and its checks, the update commands, preparation of the inactive bank,
confirmation, the choice of the bank at Dawn, rollback (R353–R368). -/

namespace Sys2Proof.Machine

def setUpd (u : UpdSt) (s : State) : State := { s with upd := u }

/-! ### Result codes (Table 15-9) -/

def urOk : Byte := 0x00
def urInProgress : Byte := 0x01
def urBadHeader : Byte := 0x02
def urDigest : Byte := 0x03
def urSignature : Byte := 0x04
def urVariant : Byte := 0x05
def urFromVersion : Byte := 0x06
def urRollback : Byte := 0x07
def urFormat : Byte := 0x08
def urPart : Byte := 0x09
def urChannel : Byte := 0x0A
def urStore : Byte := 0x0B
def urBusy : Byte := 0x0C
def urState : Byte := 0x0D
def urNotReady : Byte := 0x0E
def urPairProtocol : Byte := 0x0F

def updResult (code : Byte) (s : State) : State := setUpd { s.upd with result := code } s

/-! ### Manifest (Tables 15-2 to 15-4) -/

def mfMinFrom (m : List Byte) : Word := fieldW m 0x14
def mfSecurity (m : List Byte) : Nat := field m 0x18 4
def mfPair (m : List Byte) : Half := fieldH m 0x1C
def mfParamFmt (m : List Byte) : Nat := field m 0x20 2
def mfVariants (m : List Byte) : Half := fieldH m 0x22
def mfParts (m : List Byte) : Nat := field m 0x24 1
def mfRevoke (m : List Byte) : BitVec 4 := (fieldB m 0x25).setWidth 4

/-- The bytes of the package held, its chunks joined. -/
def pkgBytes (p : UpdPkg) : List Byte := p.chunks.flatMap (·.2)
def pkgManifest (b : List Byte) : List Byte := b.drop 0x40
def pkgD (b : List Byte) : Nat := field b 0x0C 4 - 104
def pkgTotal (p : UpdPkg) : Nat := sectorsOf p.size

structure PartEntry where
  part    : Nat
  delta   : Bool
  version : Word
  off     : Nat
  len     : Nat
  target  : Nat
  source  : List Byte
  digest  : List Byte
  formOk  : Bool

def partEntry (m : List Byte) (i : Nat) : PartEntry :=
  let e := (m.drop (0x80 + 96 * i)).take 96
  ⟨field e 0 1, field e 1 1 == 1, fieldW e 4, field e 8 4, field e 0x0C 4, field e 0x10 4, (e.drop 0x20).take 32,
   (e.drop 0x40).take 32, decide (field e 1 1 ≤ 1) && allZero e 2 4 && allZero e 0x14 0x20⟩
def partEntries (m : List Byte) : List PartEntry := (List.range (mfParts m)).map (partEntry m)

/-- Max size of a part (Table 15-1). -/
def partMax (p : Nat) : Nat :=
  match p with
  | 1 => 960 * 1024 | 2 => 3 * 1048576 | 3 => 1048576 | 4 => 256 * 1024 | 5 => 768 * 1024 | 6 => 42 * 1048576 | _ => 0

/-- A DELTA body applied to the running part; none where R355 fails. -/
def applyDelta (src : List Byte) : Nat → List Byte → List Byte → Option (List Byte)
  | 0, _, _ => none
  | n + 1, body, out =>
    if body.length < 4 then none
    else
      let w := field body 0 4
      let l := w % 2 ^ 30
      let r := body.drop 4
      match w / 2 ^ 30 with
      | 0 =>
        let o := field r 0 4
        if r.length < 4 ∨ src.length < o + l then none else applyDelta src n (r.drop 4) (out ++ (src.drop o).take l)
      | 1 => if r.length < l then none else applyDelta src n (r.drop (4 * ((l + 3) / 4))) (out ++ r.take l)
      | 2 => if r.length < 4 then none else applyDelta src n (r.drop 4) (out ++ List.replicate l (r.getD 0 0))
      | _ => if l = 0 then some out else none

/-- The part that an entry builds, TARGET_SIZE bytes; none where it cannot. -/
def builtPart (s : State) (b : List Byte) (e : PartEntry) : Option (List Byte) :=
  let body := (b.drop e.off).take e.len
  let r := if e.delta then applyDelta (partOf (runningBank s) e.part) (body.length + 1) body [] else some body
  r.filter (fun x => decide (x.length = e.target))

/-! ### Verification (R357) -/

def pkgHeaderOk (p : UpdPkg) (b : List Byte) : Bool :=
  decide (fieldW b 0 = 0x44505531) && decide (field b 4 2 = 1) && decide (field b 6 2 = 64) && decide (field b 8 4 = 0)
    && decide (field b 0x0C 4 = p.size) && decide (b.length = p.size) && decide (p.size ≤ 0x02000000)
    && decide (field b 0x10 4 = 0x40) && decide (field b 0x14 4 = 128 + 96 * mfParts (pkgManifest b)) && allZero b 0x18 0x3C
    && decide (fieldW b 0x3C = crc32c (b.take 0x3C)) && decide (pkgD b % 16 = 0) && decide (0x40 + field b 0x14 4 ≤ pkgD b)

def pkgSigned (s : State) (b : List Byte) : Bool :=
  let t := b.drop (pkgD b)
  let k := field t 32 1
  allZero t 33 40 && (if h : k < 4 then
      !s.upd.revoked.getLsbD k && Config.updateKey ⟨k, h⟩ != [] && Config.ed25519Verify (Config.updateKey ⟨k, h⟩) (t.take 32) ((t.drop 40).take 64)
    else false)

/-- One part entry against Table 15-4 and R355; `from_` is the end of the manifest or of the body before it. -/
def partOk (s : State) (b : List Byte) (from_ last : Nat) (e : PartEntry) : Bool :=
  e.formOk && decide (1 ≤ e.len) && decide (last < e.part) && decide (e.part ≤ 6) && decide (e.off = up16 from_) && decide (e.off + e.len ≤ pkgD b)
    && allZero b from_ e.off && decide (e.target ≤ partMax e.part)
    && (if e.delta then s.sup.phase != .recovery && e.source == sha256 (partOf (runningBank s) e.part)
      else e.source.all (· == 0))
    && (builtPart s b e).isSome
def partsOk (s : State) (b : List Byte) : Nat → Nat → List PartEntry → Bool
  | from_, _, [] => decide (up16 from_ = pkgD b) && allZero b from_ (pkgD b)
  | from_, last, e :: r => partOk s b from_ last e && partsOk s b (e.off + e.len) e.part r

/-- The first code of Table 15-9 that applies; OK for a package that passes. -/
def verifyPkg (s : State) (p : UpdPkg) : Byte :=
  let b := pkgBytes p
  let m := pkgManifest b
  let run := (runningBank s).manifest
  let checks : List (Bool × Byte) :=
    [ (pkgHeaderOk p b, urBadHeader),
      ((b.drop (pkgD b)).take 32 == sha256 (b.take (pkgD b)), urDigest),
      (pkgSigned s b, urSignature),
      ((mfVariants m).getLsbD s.variant.code.toNat, urVariant),
      (s.sup.phase == .recovery || decide ((mfMinFrom m).toNat ≤ (mfVersion run).toNat), urFromVersion),
      (decide (dcValue s 9 ≤ mfSecurity m), urRollback),
      (decide (mfRetainFmt run ≤ mfRetainFmt m) && decide (mfParamFmt run ≤ mfParamFmt m), urFormat),
      (decide (1 ≤ mfParts m) && decide (mfParts m ≤ 6) && decide (mfSecurity m ≤ 4095) && decide (field m 0x25 1 < 16)
        && allZero m 0x26 0x80 && partsOk s b (0x40 + field b 0x14 4) 0 (partEntries m), urPart) ]
  match checks.find? (fun c => !c.1) with
  | some c => c.2
  | none => urOk

/-! ### Records (Table 15-7) -/

/-- FW_VERSION of the package held, once its manifest is there. -/
def pkgVersion (s : State) : Word := match s.upd.pkg with | some p => mfVersion (pkgManifest (pkgBytes p)) | none => 0
def pkgId (s : State) : List Byte := match s.upd.pkg with | some p => p.id | none => []
def updRecord (kind value : Nat) (crc : Word) (s : State) : State :=
  let r : UpdRec := ⟨kind, s.upd.bankB, !s.upd.bankB, pkgVersion s, value, crc, pkgId s, s.opMs, powerCycles s⟩
  setUpd { s.upd with recs := s.upd.recs ++ [r] } s
/-- A package given up: its BEGIN and RECEIVED records are no longer in force. -/
def dropPackage (s : State) : State :=
  setUpd { s.upd with pkg := none, recs := s.upd.recs.filter (fun r => r.kind != 1 && r.kind != 2) } s

/-- The chunks whose RECEIVED record's CRC still fits what staging holds of them; the others leave the map (R358). -/
def rereadChunks (s : State) : State :=
  match s.upd.pkg with
  | none => s
  | some p =>
    let ok (c : Nat × List Byte) : Bool := s.upd.recs.any (fun r => r.kind == 2 && r.value == c.1 && r.crc == crc32c c.2)
    let kept := p.chunks.filter ok
    setUpd { s.upd with
      pkg := some { p with chunks := kept }
      recs := s.upd.recs.filter (fun r => r.kind != 2 || kept.any (fun c => c.1 == r.value)) } s

/-! ### Commands (R358, R359, R362, R364, R365): the code of Table 15-9, and the state -/

def updBegin (id : List Byte) (size : Nat) (s : State) : Byte × State :=
  let u := s.upd
  if u.st = .trial ∧ u.pkg.isNone then (urState, s)
  else if u.st ≠ .idle then (urBusy, s)
  else if size < 64 ∨ 0x02000000 < size then (urBadHeader, s)
  else (urOk, updRecord 1 size 0 (setUpd { (dropPackage s).upd with pkg := some { id := id, size := size }, st := .receiving, progress := 0 } (dropPackage s)))

def updChunk (n : Nat) (data : List Byte) (s : State) : Byte × State :=
  match s.upd.pkg with
  | none => (urState, s)
  | some p =>
    if s.upd.st ≠ .receiving then (urState, s)
    else
      let new_ := (p.chunks.filter (fun c => c.1 == n)).isEmpty
      let k := stage 1 s
      if new_ && stagingFull s then (urStore, s)
      else if !k.1 then (urStore, k.2)
      else
        let s := k.2
        let s := setUpd { s.upd with pkg := some { p with chunks := tset [] p.chunks n data } } s
        let s := setUpd { s.upd with recs := s.upd.recs.filter (fun r => r.kind != 2 || r.value != n) } s
        (urOk, updRecord 2 n (crc32c data) s)

/-- Bytes that chunk `n` of the package holds; none where the package has no such chunk. -/
def chunkSize (s : State) (n : Nat) : Option Nat :=
  match s.upd.pkg with
  | some p => if 65536 * n < p.size then some (min 65536 (p.size - 65536 * n)) else none
  | none => none

/-- UPD_VERIFY: each present chunk is read again first, and a chunk that no longer matches leaves the map (R358). -/
def updVerify (s : State) : Byte × State :=
  let s := if s.upd.st = .receiving then rereadChunks s else s
  match s.upd.pkg with
  | some p =>
    if s.upd.st = .receiving ∧ p.chunks.length = pkgTotal p then
      (urInProgress, setUpd { s.upd with st := .verifying, progress := 0 } s)
    else (urState, s)
  | none => (urState, s)

/-- What UPD_ACTIVATE meets (R362). -/
def activateCheck (force : Bool) (s : State) : Byte :=
  if s.upd.st ≠ .prepared then urState
  else if s.cfg.job.isSome then urBusy
  else if pairOn s && !force && (match s.red.partner with | some h => h.protocol != mfPair (inactiveBank s).manifest | none => false) then urPairProtocol
  else if pairOn s && s.red.st == .active && !partnerReady s && !force then urNotReady
  else urOk
/-- The ACTIVATE record, then the reset (R362, steps 2 and 3). -/
def activateNow (s : State) : State := resetSoon rcUpdate 0 (updRecord 3 (dcValue s 10 % 2 ^ 32) 0 s)

/-- Every task of KIND 1, 2 or 4 that no command has stopped has published since the trial Dawn, and a standby is READY. -/
def trialHolds (s : State) : Bool :=
  taskIds.all (fun t => let k := (s.tcfg t).kind; !(k == 1 || k == 2 || k == 4) || (s.task t).byCmd || (s.task t).pubDawn)
    && (s.red.st == .single || s.red.st == .active || s.red.st == .ready)

/-- DCNT9 rises to SECURITY_VERSION (R365). -/
def raiseSecurity (s : State) : State :=
  (List.range (mfSecurity (runningBank s).manifest - dcValue s 9)).foldl (fun s _ => dcInc 9 s) s

/-- The CONFIRM record and what follows it (R356, R365, R367). -/
def confirmUpdate (s : State) : State :=
  let m := (runningBank s).manifest
  let r : UpdRec := ⟨4, !s.upd.bankB, s.upd.bankB, mfVersion m, 0, 0, mfId m, s.opMs, powerCycles s⟩
  let s := setUpd { s.upd with recs := s.upd.recs ++ [r] } s
  let s := dropPackage (dcInc 7 (raiseSecurity s))
  setUpd { s.upd with st := .idle, trial := 0, confirmed := true, outcome := 1, rollback := none, holdFrom := none
                      revoked := s.upd.revoked ||| mfRevoke (runningBank s).manifest } s
def updConfirm (s : State) : Byte × State :=
  if s.upd.st ≠ .trial then (urState, s)
  else if !trialHolds s then (urNotReady, s)
  else (urOk, confirmUpdate s)

/-- A REVERT record that gives up bank `bankB`; the next Dawn does the work of R368. -/
def revertRecord (value : Nat) (bankB : Bool) (s : State) : State :=
  let k := if bankB then s.upd.bankB_ else s.upd.bankA
  let r : UpdRec := ⟨5, !bankB, bankB, mfVersion k.manifest, value, 0, mfId k.manifest, s.opMs, powerCycles s⟩
  setUpd { s.upd with recs := s.upd.recs ++ [r], reverted := true, outcome := BitVec.ofNat 4 (1 + value) } s
def updRevert (s : State) : Byte × State :=
  if s.upd.st ≠ .trial then (urState, s) else (urOk, resetSoon rcUpdate 0 (revertRecord 2 s.upd.bankB s))

/-- UPD_CANCEL: the package and its records are discarded, in TRIAL too, which goes on (R359). -/
def updCancel (s : State) : Byte × State :=
  if s.upd.pkg.isNone then (urState, s)
  else (urOk,
    let s := dropPackage (updRecord 6 0 0 s)
    let s := { s with chans := s.chans.foldl (fun t e => tset {} t e.1 { e.2 with fw := e.2.fw.filter (·.switch) }) [] }
    setUpd { s.upd with st := if s.upd.st = .trial then .trial else .idle, progress := 0 } s)

/-! ### Verification and preparation end -/

def setInactive (k : Bank) (s : State) : State :=
  if s.upd.bankB then setUpd { s.upd with bankA := k } s else setUpd { s.upd with bankB_ := k } s
/-- First sector of the inactive bank (Table 12-2). -/
def inactiveBase (s : State) : Nat := if s.upd.bankB then 0 else 2048
def hasChannel (p : UpdPkg) : Bool := (partEntries (pkgManifest (pkgBytes p))).any (fun e => e.part == 4)
/-- The CHANNEL part that a package brings, with its version (R361). -/
def channelBank (s : State) (p : UpdPkg) : Bank :=
  let b := pkgBytes p
  match (partEntries (pkgManifest b)).find? (fun e => e.part == 4) with
  | some e => { chanVer := e.version.setWidth 16, parts := [(4, (builtPart s b e).getD [])] }
  | none => {}

/-- Preparation begins: the inactive bank is erased, its BANK_SEQ counted on from, and the dies' programming starts; a die
without L+ is marked (R360, R361). -/
def prepare (p : UpdPkg) (s : State) : State :=
  let s := setInactive { seq := (inactiveBank s).seq } (eraseRange (inactiveBase s) 768 s)
  let k := channelBank s p
  let s := setUpd { s.upd with st := .preparing, result := urInProgress, progress := 0, again := 0, pend := 0 } s
  if !hasChannel p then s
  else chanIds.foldl (fun s c =>
    if (s.chan c).die.alive then startFw k false false c s
    else setUpd { s.upd with pend := s.upd.pend ||| BitVec.ofNat 48 (2 ^ c) } s) s

/-- VERIFICATION_DONE (R357): the package is refused, or preparation begins. -/
def execVerificationDone (s : State) : Out :=
  .next (match s.upd.pkg with
    | some p =>
      if !s.up ∨ s.upd.st ≠ .verifying then s
      else
        let c := verifyPkg s p
        if c = urOk then prepare p s
        else setUpd { s.upd with st := .idle, result := c, progress := 0 } s
    | none => s)

/-- PART_DIGEST of an empty part. -/
def emptyDigest : List Byte := sha256 []
/-- The bank that a package builds: its parts over those of the running bank (R355, R360). -/
def buildBank (s : State) (b : List Byte) : Option Bank :=
  let es := partEntries (pkgManifest b)
  let run := runningBank s
  let listed (p : Nat) : Bool := es.any (fun e => e.part == p)
  let copied := [1, 2, 3, 4, 5, 6].filter (fun p => !listed p)
  if es.all (fun e => match builtPart s b e with | some x => sha256 x == e.digest | none => false)
      && copied.all (fun p => sha256 (partOf run p) == tget emptyDigest run.digests p) then
    let parts := es.foldl (fun t e => match builtPart s b e with | some x => tset [] t e.part x | none => t) run.parts
    let digests := es.foldl (fun t e => tset emptyDigest t e.part e.digest) run.digests
    let seq := (if ahead s.upd.bankA.seq s.upd.bankB_.seq then s.upd.bankA.seq else s.upd.bankB_.seq) + 1
    let ch := match es.find? (fun e => e.part == 4) with | some e => e.version.setWidth 16 | none => run.chanVer
    some ⟨true, seq, (pkgManifest b).take 128, (b.drop (pkgD b)).take 32, parts, digests, ch⟩
  else none

/-- A preparation that fails; the package stays in staging (R357). -/
def prepareFails (code : Byte) (s : State) : State := setUpd { s.upd with st := .idle, result := code, progress := 0 } s

/-- PREPARATION_DONE (R360, R361): not while a sector of the bank is under rewrite (R318) or a die is being programmed. The parts
are checked, a bank sector that cannot be written ends it with STORE_FAILED, a die whose slot CRC differs is programmed again
once, and the bank header is written last. -/
def execPreparationDone (chanFail chanNoLplus : BitVec 48) (s : State) : Out :=
  .next (match s.upd.pkg with
    | some p =>
      let lo := inactiveBase s
      let busy (c : Nat) : Bool := (s.chan c).fw.any (fun j => !j.switch) && !chanNoLplus.getLsbD c
      let rewrite : Bool := match s.stor.refresh with | some x => inArea lo 768 x.1 | none => false
      if !s.up ∨ s.upd.st ≠ .preparing ∨ rewrite ∨ chanIds.any busy then s
      else
        match buildBank s (pkgBytes p) with
        | none => prepareFails urPart s
        | some k =>
          let w := programRange lo 768 s
          let s := w.2
          let fails := chanIds.filter (fun c => hasChannel p && chanFail.getLsbD c && !chanNoLplus.getLsbD c && (s.chan c).die.alive)
          if !w.1 then prepareFails urStore s
          else if fails.any (fun c => s.upd.again.getLsbD c) then prepareFails urChannel s
          else if fails ≠ [] then
            fails.foldl (fun s c => startFw (channelBank s p) false false c
              (setUpd { s.upd with again := s.upd.again ||| BitVec.ofNat 48 (2 ^ c) } s)) s
          else
            let late := chanIds.filter (fun c => hasChannel p && chanNoLplus.getLsbD c)
            let s := late.foldl (fun s c => s.modChan c (fun x => { x with fw := none })) s
            let pend := late.foldl (fun m c => m ||| BitVec.ofNat 48 (2 ^ c)) s.upd.pend
            let s := setInactive k s
            setUpd { s.upd with st := .prepared, result := urOk, progress := 1000, pend := pend } s
    | none => s)

/-- AUTO_CONFIRM (R365): AUTO_CONFIRM_S seconds of trial with the conditions held. -/
def execAutoConfirm (s : State) : Out :=
  .next (
    let held : Bool := match s.upd.holdFrom with | some t => decide (t + 1000 * autoConfirmS s ≤ s.opMs) | none => false
    if s.up ∧ s.upd.st = .trial ∧ autoConfirmS s ≠ 0 ∧ trialHolds s ∧ held then confirmUpdate s else s)

/-! ### Dawn (R353, R363, R367, R368) -/

/-- The newest ACTIVATE record and the CONFIRM or REVERT records that follow it. -/
def activateOf : List UpdRec → Option (UpdRec × List UpdRec)
  | [] => none
  | r :: rest => match activateOf rest with
    | some x => some x
    | none => if r.kind = 3 then some (r, rest) else none

/-- The bank by the records: bank B, confirmed, the trial boot, whether the trial boots are used up. -/
structure BankChoice where
  bankB     : Bool := false
  confirmed : Bool := true
  trial     : Nat := 0
  spent     : Bool := false
def bankChoice (s : State) : BankChoice :=
  match activateOf s.upd.recs with
  | none => {}
  | some (a, rest) =>
    if rest.any (fun r => r.kind == 4) then { bankB := a.toB }
    else if rest.any (fun r => r.kind == 5) then { bankB := a.fromB }
    else
      let n := (dcValue s 10 + 2 ^ 32 - a.value) % 2 ^ 32
      if n < 3 then { bankB := a.toB, confirmed := false, trial := n + 1 } else { bankB := a.fromB, spent := true }

/-- Module pages that were ever written. -/
def writtenPages (s : State) : List Nat := ((psRecs s).map (·.page)).eraseDups.filter (· < 1024)
def modulePages (s : State) : List (Nat × List Byte) := (writtenPages s).map (fun p => (p, (psContent s p).1))

/-- Formats of the two banks, and what R368 does at the first Dawn after a REVERT record: a module page that was first written
in the trial reads 0xFF again. The page writes of a Dawn are not held to the rate of R310 (log 36). -/
def restoreRollback (s : State) : State :=
  match s.upd.rollback with
  | none => s
  | some b =>
    let run := (runningBank s).manifest
    let other := (inactiveBank s).manifest
    let params := mfParamFmt run != mfParamFmt other
    let retain := mfRetainFmt run != mfRetainFmt other
    let pages := ((b.pages.map (·.1)) ++ writtenPages s).eraseDups
    let s := if params then pages.foldl (fun s p =>
        let v := tget (List.replicate 256 0xFF) b.pages p
        if (psContent s p).1 = v then s else psStore p 0 v {} s) s
      else s
    let s := if retain then { s with img := { s.img with bank0 := b.bank0, bank1 := b.bank1, noSave := true } } else s
    setUpd { s.upd with restored := params || retain, rollback := none } s

/-- A raised PARAM_FMT rewrites each module page by an appended record. The layouts are the firmware's own and the spec gives
none: the model keeps one layout for every format, so the bytes stay (log 22). -/
def migratePages (s : State) : State :=
  if mfParamFmt (runningBank s).manifest ≤ mfParamFmt (inactiveBank s).manifest then s
  else (modulePages s).foldl (fun s p => psStore p.1 0 p.2 {} s) s

/-- The first trial Dawn copies what a revert restores into 36 staging sectors, then migrates (R367). -/
def takeRollback (s : State) : State :=
  if s.upd.rollback.isSome then s
  else
    let k := stage 36 s
    migratePages (if k.1 then setUpd { k.2.upd with rollback := some ⟨modulePages s, s.img.bank0, s.img.bank1⟩ } k.2 else k.2)

/-- What the first Dawn after a REVERT record does (R364, R368). -/
def finishRevert (s : State) : State :=
  if !s.upd.reverted then s
  else
    let s := dropPackage (dcInc 8 (restoreRollback s))
    setUpd { s.upd with reverted := false, rollback := none, st := .idle } s

/-- Where the update goes on at Dawn (Table 15-6). -/
def resumeUpdate (s : State) : State :=
  let st : UpdPhase := if s.upd.trial ≠ 0 then .trial else match s.upd.st with
    | .trial => .idle
    | .preparing => .verifying
    | x => x
  setUpd { s.upd with st := st, holdFrom := none } (rereadChunks s)

/-- R363: the bank is chosen and its boot counted or its revert recorded; none where neither bank passes, which is recovery
boot. -/
def pickBank (okChosen okOther : Bool) (s : State) : Option BankChoice × State :=
  let c := bankChoice s
  let s := setUpd { s.upd with restored := false } s
  let s := if c.spent then revertRecord 1 (!c.bankB) s else if c.trial ≠ 0 then dcInc 10 s else s
  let valid (b : Bool) : Bool := if b then s.upd.bankB_.valid else s.upd.bankA.valid
  if okChosen && valid c.bankB then (some c, s)
  else if okOther && valid (!c.bankB) then
    (some { c with bankB := !c.bankB, confirmed := decide (c.trial ≠ 0), trial := 0 },
     if c.trial ≠ 0 then revertRecord 3 c.bankB s else s)
  else (none, s)
/-- What hangs on the bank is settled: a revert ends, a trial keeps what it may have to restore, a confirmed bank raises the
security version (R364, R365, R367, R368). -/
def bootBank (c : Option BankChoice) (s : State) : State :=
  match c with
  | some c =>
    let s := resumeUpdate (finishRevert (setUpd { s.upd with bankB := c.bankB, confirmed := c.confirmed, trial := c.trial } s))
    if c.trial ≠ 0 then takeRollback s else if c.confirmed then raiseSecurity s else s
  | none => s

/-! ### Register block (Tables 15-8, 15-10) -/

def UpdPhase.code : UpdPhase → Nat
  | .idle => 0 | .receiving => 1 | .verifying => 2 | .preparing => 3 | .prepared => 4 | .trial => 5
def updStatus (s : State) : Word :=
  let u := s.upd
  natAt 28 u.st.code ||| natAt 24 u.trial ||| boolBit 23 u.bankB ||| boolBit 22 u.confirmed ||| boolBit 21 u.restored
    ||| atBit 8 u.result ||| atBit 4 u.outcome
/-- Seconds left before the automatic confirmation: counted from when its conditions began to hold (R365). -/
def confirmLeft (s : State) : Nat :=
  if s.upd.st ≠ .trial ∨ autoConfirmS s = 0 then 0
  else autoConfirmS s - (match s.upd.holdFrom with | some t => (s.opMs - t) / 1000 | none => 0)
def updReg (s : State) (o : Nat) : Word :=
  match o with
  | 0x00 => updStatus s
  | 0x04 => mfVersion (runningBank s).manifest
  | 0x08 => if (inactiveBank s).valid then mfVersion (inactiveBank s).manifest else 0
  | 0x0C => match s.upd.pkg with | some p => natAt 16 p.chunks.length ||| natAt 0 (pkgTotal p) | none => 0
  | 0x10 => atBit 0 s.upd.progress
  | 0x14 => BitVec.ofNat 32 (dcValue s 9)
  | 0x18 => s.upd.pend.setWidth 32
  | 0x1C => (s.upd.pend >>> 32).setWidth 32
  | 0x20 => natAt 0 (confirmLeft s)
  | 0x24 => match s.upd.pkg with
    | some p => if p.chunks.length = pkgTotal p then fieldW ((pkgBytes p).drop (pkgD (pkgBytes p))) 0 else 0
    | none => 0
  | _ => 0

end Sys2Proof.Machine
end

