-- ==== Sys2Proof/Machine/Command.lean ====
section
/-! DEFINITION. The commands of Table 16-24 as the host mailbox (R392–R396) and the engineering station (R237) run them: what
each answers, those that complete later, the posting of a result. -/

namespace Sys2Proof.Machine

/-! ### Status codes (Table 16-23) -/

def msOk : Byte := 0x00
def msAccepted : Byte := 0x01
def msRefused : Byte := 0x02
def msBusy : Byte := 0x03
def msBadArg : Byte := 0x04
def msUnknown : Byte := 0x05
def msAbsent : Byte := 0x06
def msNotReady : Byte := 0x07
def msSaturated : Byte := 0x08
def msState : Byte := 0x09
def msOffset : Byte := 0x0A
def msFailed : Byte := 0x0B
def msNone : Byte := 0xFF

/-- The path of a command with its arguments: `buf` is XFER_BUF or DATA, `asm` the assembly buffer or DATA, `mem` what an
XFER_FETCH reads from host memory. -/
structure CmdIn where
  owner : CmdOwner := .host
  spi   : Bool := false
  args  : List Word := []
  buf   : List Byte := []
  asm   : List Byte := []
  mem   : List Byte := []

def CmdIn.arg (c : CmdIn) (i : Nat) : Nat := (c.args.getD i 0).toNat

/-- A result: STATUS, RVAL0 onward, RDATA. -/
structure CmdRes where
  status : Byte := 0
  rv     : List Word := []
  data   : List Byte := []

/-- The answer of a command: its result, or none while it goes on. -/
abbrev CmdAns := Option CmdRes × State
def ans (status : Byte) (rv : List Word) (s : State) : CmdAns := (some { status := status, rv := rv }, s)
def waits (s : State) : CmdAns := (none, s)

/-! ### Module, tasks, regions, channels -/

def cmdNop (_ : CmdIn) (s : State) : CmdAns := ans msOk [] s

/-- RESET: guard value 0x5253; the reset follows 1 ms later (R396). -/
def cmdReset (c : CmdIn) (s : State) : CmdAns :=
  if c.arg 0 = 0x5253 then ans msOk [] (resetSoon rcHostReset 1000000 s) else ans msBadArg [] s

def ttWord (s : State) (t : Nat) : Word := ttStatus (s.tcfg t) (s.task t)
def taskDown (s : State) (t : Nat) : Bool :=
  let x := (s.task t).st; x == .stopped || x == .fault || x == .unused

/-- TASK_STOP (R114). -/
def cmdTaskStop (c : CmdIn) (s : State) : CmdAns :=
  let t := c.arg 0
  if 31 < t then ans msBadArg [] s
  else if (s.tcfg t).kind = 0 then ans msState [] s
  else
    let down := taskDown s t
    let s := diaryRaise 0x3002 (BitVec.ofNat 16 t) [1] s
    let s := if down then s else stopAtEnd t 1 (s.modTask t (fun x => { x with byCmd := true }))
    if taskDown s t then ans msOk [ttWord s t] s else waits s

/-- A full image load stands between the start of stage 8 and the end of stage 14. -/
def loadRuns (s : State) : Bool := match s.cfg.job with | some j => !j.delta && decide (j.phase = .stopping) | none => false

/-- TASK_START (R114). -/
def cmdTaskStart (c : CmdIn) (s : State) : CmdAns :=
  let t := c.arg 0
  let x := s.task t
  if 31 < t then ans msBadArg [] s
  else if (s.tcfg t).kind = 0 then ans msState [] s
  else if x.st ≠ .stopped ∧ x.st ≠ .fault then ans msOk [ttWord s t] s
  else if regionFaulted s t then ans msState [] s
  else if (s.tcfg t).kind == 4 && s.safe.st == .stop then ans msState [] s
  else if regionRestarting s t || loadRuns s then ans msBusy [] s
  else
    let s := startTask t false (diaryRaise 0x3002 (BitVec.ofNat 16 t) [2] s)
    ans msOk [ttWord s t] s

/-- HOST_EVENT (R113, Table 5-3). -/
def cmdHostEvent (c : CmdIn) (s : State) : CmdAns :=
  if 15 < c.arg 0 then ans msBadArg [] s else ans msOk [] (deliverEvent (trigHost (c.arg 0)) s)

/-- The entries of a HOST_WRITE: number, data, and QUAL in the tag. -/
def hostEntries (n : Nat) (b : List Byte) : List WordEntry :=
  (List.range n).map (fun i =>
    let w := fieldW b (8 * i)
    ⟨w.toNat % 32768, fieldW b (8 * i + 4), (w >>> 16) &&& 3⟩)
/-- HOST_WRITE (R395): one input batch in the host queue; it completes when the batch has been applied. -/
def cmdHostWrite (c : CmdIn) (s : State) : CmdAns :=
  let n := c.arg 0
  if n = 0 ∨ 512 < n ∨ c.buf.length < 8 * n then ans msBadArg [] s
  else waits (pushHost ⟨6, c.owner, hostEntries n c.buf⟩ s)

/-- A load, an edit or a restart of the region is in progress (R42). -/
def cmdRegionRestart (c : CmdIn) (s : State) : CmdAns :=
  let r := c.arg 0
  if 15 < r then ans msBadArg [] s
  else if s.cfg.job.isSome ∨ (s.region r).restart ≠ .none then ans msBusy [] s
  else waits (regionTestStart r (regionRestart r s))

/-- CHANNEL_RESTART (R53, Table 2-25): with the record of the running image. -/
def cmdChannelRestart (c : CmdIn) (s : State) : CmdAns :=
  let n := c.arg 0
  if 47 < n then ans msBadArg [] s
  else if s.cfg.job.isSome ∨ (s.chan n).restart ≠ .none then ans msBusy [] s
  else waits (startChanRestart n (imageRecord s n) s)

/-! ### Assembly buffer and upload (R394) -/

def setAsm (b : List Byte) (s : State) : State := { s with mb := { s.mb with asm := b } }
def asmLen (s : State) : Word := natAt 0 s.mb.asm.length

def cmdXferAppend (c : CmdIn) (s : State) : CmdAns :=
  let n := c.arg 0
  if c.owner ≠ .host then ans msUnknown [] s
  else if n = 0 ∨ 4096 < n then ans msBadArg [] s
  else if c.arg 1 ≠ s.mb.asm.length then ans msOffset [] s
  else if 65536 < s.mb.asm.length + n then ans msBadArg [] s
  else
    let s := setAsm (s.mb.asm ++ padTo n c.buf) s
    ans msOk [asmLen s] s

/-- XFER_FETCH: refused through SPI. The module masters the bus only while Bus Master Enable is 1 (Table 16-11); else it answers
STATE (log 23). -/
def cmdXferFetch (c : CmdIn) (s : State) : CmdAns :=
  let n := c.arg 2
  if c.owner ≠ .host then ans msUnknown [] s
  else if c.spi then ans msRefused [] s
  else if n = 0 ∨ 65536 < n then ans msBadArg [] s
  else if !s.host.command.getLsbD 2 then ans msState [] s
  else
    let s := setAsm (padTo n c.mem) s
    ans msOk [asmLen s] s

def cmdXferClear (c : CmdIn) (s : State) : CmdAns :=
  if c.owner ≠ .host then ans msUnknown [] s else ans msOk [] (setAsm [] s)

def setUpload (u : Option Upload) (s : State) : State := { s with mb := { s.mb with upload := u } }
/-- The buffer is consumed by a host command. -/
def consume (c : CmdIn) (s : State) : State := if c.owner = .host then setAsm [] s else s

/-- IMG_BEGIN. A size that no image header can carry is BAD_HEADER (log 21). -/
def cmdImgBegin (c : CmdIn) (s : State) : CmdAns :=
  let n := c.arg 0
  if s.mb.upload.isSome then ans msBusy [] s
  else if n < 64 ∨ maxImage < n then ans msFailed [lsBadHeader.setWidth 32] s
  else if stagingFull s then ans msFailed [lsStore.setWidth 32] s
  else ans msOk [] (setUpload (some { size := n, at_ := s.now }) s)

def cmdImgSegment (c : CmdIn) (s : State) : CmdAns :=
  match s.mb.upload with
  | none => ans msState [] s
  | some u =>
    if c.arg 0 ≠ u.segs then ans msOffset [] s
    else if u.size ≤ 65536 * u.segs ∨ c.asm.length ≠ min 65536 (u.size - 65536 * u.segs) then ans msBadArg [] s
    else if stagingFull s then ans msFailed [lsStore.setWidth 32] s
    else
      let p := stage 1 s
      if !p.1 then ans msFailed [lsStore.setWidth 32] p.2
      else ans msOk [natAt 0 (u.segs + 1)] (consume c (setUpload (some { u with data := u.data ++ c.asm, segs := u.segs + 1, at_ := s.now }) p.2))

/-- First 16 bytes of the SHA-256 of the certificate of the session that gives the command, which holds the write rights. -/
def cmdSession (c : CmdIn) (s : State) : List Byte :=
  if c.owner ≠ .es then []
  else if s.es.s0.write then (sha256 s.es.s0.cert).take 16 else (sha256 s.es.s1.cert).take 16
/-- IMG_END: the load of Table 2-16 on the upload; BUSY under R42 and R362. -/
def cmdImgEnd (c : CmdIn) (s : State) : CmdAns :=
  match s.mb.upload with
  | none => ans msState [] s
  | some u => if loadBusy s then ans msBusy [] s else ans msAccepted [] (beginLoad u.data (cmdSession c s) (setUpload none s))

def cmdImgAbort (_ : CmdIn) (s : State) : CmdAns := ans msOk [] (setUpload none s)

/-- UPLOAD_TIMEOUT (R394): 60 s without a segment. -/
def execUploadTimeout (s : State) : Out :=
  .next (match s.mb.upload with
    | some u => if u.at_ + 60000000000 ≤ s.now then setUpload none s else s
    | none => s)

/-! ### Storage -/

/-- PS_READ (R307, R308, R310). -/
def cmdPsRead (c : CmdIn) (s : State) : CmdAns :=
  let p := c.arg 0
  if 4095 < p then ans msBadArg [] s
  else if !s.stor.ready then ans msBusy [] s
  else
    let v := psServe p s
    (some { status := msOk, data := v.1 }, v.2)

/-- PS_WRITE (R303, R304, R310). BUSY also where the store has no room for a record (log 37). -/
def cmdPsWrite (c : CmdIn) (s : State) : CmdAns :=
  let p := c.arg 0
  let n := c.arg 2
  if 4095 < p ∨ 255 < c.arg 1 ∨ n = 0 ∨ 256 < n ∨ c.buf.length < n then ans msBadArg [] s
  else if p < 1024 then ans msRefused [] s
  else if !s.stor.ready || psRateOver s 1 || !psRoom s then ans msBusy [] s
  else ans msOk [] (psWrite p (c.arg 1) (c.buf.take n) s)

def dcntVals (v : Nat) : List Word := [BitVec.ofNat 32 v, BitVec.ofNat 32 (v / 2 ^ 32)]
/-- DCNT_READ (R311, R315). -/
def cmdDcntRead (c : CmdIn) (s : State) : CmdAns :=
  let n := c.arg 0
  if 1023 < n then ans msBadArg [] s
  else if n < 256 then ans msRefused [] s
  else if !s.stor.ready then ans msBusy [] s
  else ans msOk (dcntVals (dcValue s n)) s
/-- DCNT_INC (R312, R315). -/
def cmdDcntInc (c : CmdIn) (s : State) : CmdAns :=
  let n := c.arg 0
  if 1023 < n then ans msBadArg [] s
  else if n < 256 then ans msRefused [] s
  else if !s.stor.ready || dcRateFull s then ans msBusy [] s
  else if 2 ^ 64 - 1 ≤ dcValue s n then ans msSaturated (dcntVals (dcValue s n)) s
  else
    let s := dcInc n s
    ans msOk (dcntVals (dcValue s n)) s

/-! ### Pair -/

/-- A handover by command is asked for (R291). -/
def askHandover (s : State) : State :=
  if s.red.handover.isSome then s else { s with red := { s.red with handover := some (BitVec.ofNat 4 soCommand) } }

def cmdSwitchover (_ : CmdIn) (s : State) : CmdAns :=
  if !s.variant.redundancy then ans msAbsent [] s
  else if s.red.st ≠ .active ∨ !partnerReady s then ans msNotReady [] s
  else waits (askHandover s)

def cmdResync (_ : CmdIn) (s : State) : CmdAns :=
  let r := resyncCommand s
  ans r.1 [] r.2

/-! ### Field update -/

/-- An update command's answer: OK or FAILED with its code, which UPD_STATUS.RESULT shows too. -/
def updAns (r : Byte × State) : CmdAns :=
  ans (if r.1 = urOk then msOk else msFailed) [r.1.setWidth 32] (updResult r.1 r.2)

def cmdUpdBegin (c : CmdIn) (s : State) : CmdAns :=
  updAns (updBegin ((List.range 4).flatMap (fun i => leBytes 4 (c.arg i))) (c.arg 4) s)
def cmdUpdChunk (c : CmdIn) (s : State) : CmdAns :=
  let n := c.arg 0
  if s.upd.st = .receiving ∧ chunkSize s n ≠ some c.asm.length then ans msBadArg [] s
  else
    let r := updChunk n c.asm s
    updAns (r.1, if r.1 = urOk then consume c r.2 else r.2)
/-- UPD_VERIFY: ACCEPTED, or FAILED with STATE. -/
def cmdUpdVerify (_ : CmdIn) (s : State) : CmdAns :=
  let r := updVerify s
  if r.1 = urInProgress then ans msAccepted [] (updResult r.1 r.2) else updAns r
/-- UPD_ACTIVATE (R362): an ACTIVE module with a READY partner hands over first. -/
def cmdUpdActivate (c : CmdIn) (s : State) : CmdAns :=
  let k := activateCheck (decide (c.arg 0 % 2 = 1)) s
  if k ≠ urOk then updAns (k, s)
  else if s.red.st = .active ∧ partnerReady s then waits (askHandover s)
  else updAns (urOk, activateNow s)
def cmdUpdConfirm (_ : CmdIn) (s : State) : CmdAns := updAns (updConfirm s)
def cmdUpdRevert (_ : CmdIn) (s : State) : CmdAns := updAns (updRevert s)
def cmdUpdCancel (_ : CmdIn) (s : State) : CmdAns := updAns (updCancel s)

/-! ### Table 16-24 -/

def commandOf (code : Nat) : Option (CmdIn → State → CmdAns) :=
  match code with
  | 0x0000 => some cmdNop | 0x0001 => some cmdReset
  | 0x0010 => some cmdTaskStop | 0x0011 => some cmdTaskStart | 0x0012 => some cmdHostEvent | 0x0013 => some cmdHostWrite
  | 0x0020 => some cmdRegionRestart | 0x0021 => some cmdChannelRestart
  | 0x0030 => some cmdXferAppend | 0x0031 => some cmdXferFetch | 0x0032 => some cmdXferClear
  | 0x0040 => some cmdImgBegin | 0x0041 => some cmdImgSegment | 0x0042 => some cmdImgEnd | 0x0043 => some cmdImgAbort
  | 0x0050 => some cmdPsRead | 0x0051 => some cmdPsWrite | 0x0058 => some cmdDcntRead | 0x0059 => some cmdDcntInc
  | 0x0060 => some cmdSwitchover | 0x0061 => some cmdResync
  | 0x0070 => some cmdUpdBegin | 0x0071 => some cmdUpdChunk | 0x0072 => some cmdUpdVerify | 0x0073 => some cmdUpdActivate
  | 0x0074 => some cmdUpdConfirm | 0x0075 => some cmdUpdRevert | 0x0076 => some cmdUpdCancel
  | _ => none

/-- Codes that recovery boot accepts (R381). -/
def recoveryCode (code : Nat) : Bool :=
  [0x0000, 0x0001, 0x0030, 0x0031, 0x0032, 0x0050, 0x0058, 0x0070, 0x0071, 0x0072, 0x0073, 0x0076].contains code
/-- Codes that write flash: not performed once Dusk has begun (R307, R319). -/
def flashCode (code : Nat) : Bool :=
  [0x0040, 0x0041, 0x0042, 0x0051, 0x0059, 0x0070, 0x0071, 0x0073, 0x0074, 0x0075, 0x0076].contains code

/-- A command under the rules of recovery boot and Dusk. `f` is its meaning, none for an unlisted CODE. -/
def runCommand (code : Nat) (f : Option (CmdIn → State → CmdAns)) (c : CmdIn) (s : State) : CmdAns :=
  if s.sup.phase = .recovery ∧ !recoveryCode code ∧ f.isSome then ans msState [] s
  else if s.sup.phase = .dusk ∧ flashCode code then waits s
  else match f with
    | some f => f c s
    | none => ans msUnknown [] s

/-! ### Commands that complete later -/

/-- The result of a command in progress, once its condition holds; with it what the command does then. -/
def cmdDone (b : CmdBusy) (s : State) : CmdAns :=
  let a := (b.args.getD 0 0).toNat
  match b.code.toNat with
  | 0x0010 => if taskDown s a then ans msOk [ttWord s a] s else waits s
  | 0x0013 => if b.fin then ans msOk [b.r0, b.r1] s else waits s
  | 0x0020 => if (s.region a).restart = .none then ans msOk [rgStatus (s.region a)] s else waits s
  | 0x0021 => if (s.chan a).restart = .none then ans msOk [chanReg s a 0x80] s else waits s
  | 0x0060 => if s.red.handover.isNone ∧ s.red.st ≠ .active then ans msOk [] s else waits s
  | 0x0073 => if s.red.handover.isNone ∧ s.red.st ≠ .active then updAns (urOk, activateNow s) else waits s
  | _ => waits s

/-! ### The mailbox (R392, R393) -/

def mbArgs (s : State) : List Word := (List.range 8).map (fun i => tget 0 s.mb.args i)

/-- A result is posted: the registers change together, BUSY clears, MB_DONE is set. -/
def mbPost (r : CmdRes) (s : State) : State :=
  match s.mb.busy with
  | none => s
  | some b => setIrq 0 { s with mb := { s.mb with
      busy := none, rseq := s.mb.issued, rstat := r.status, rtag := atBit 16 b.tag ||| atBit 0 b.code
      rval := (r.rv ++ List.replicate 8 0).take 8, rdata := padTo 256 r.data } }
def mbAnswer (a : CmdAns) : State := match a.1 with | some r => mbPost r a.2 | none => a.2

/-- PCIe reaches the module: the link is up and the host has set Memory Space Enable of the Command register (R29, R383, R387,
log 23). -/
def State.pcieReach (s : State) : Bool := s.host.pcieUp && s.host.command.getLsbD 1
/-- Port `p` answers: the host port does, and PCIe reaches it. -/
def portUp (p : Port) (s : State) : Bool := s.up && (p != .pcie || s.pcieReach)
/-- A valid access through SPI: the frame was no invalid one. -/
def portUsed (p : Port) (s : State) : State := if p = .spi then { s with host := { s.host with spiLow := false } } else s

/-- The command at MB_CMD: accepted with its arguments latched, or discarded with LOST (R392). -/
def mbIssue (code : Nat) (f : Option (CmdIn → State → CmdAns)) (spi : Bool) (tag : Half) (mem : List Byte) (s : State) : State :=
  if s.mb.busy.isSome then { s with mb := { s.mb with lost := true } }
  else
    let args := mbArgs s
    let s := { s with mb := { s.mb with
      issued := s.mb.issued + 1, busy := some { code := BitVec.ofNat 16 code, tag := tag, args := args } } }
    mbAnswer (runCommand code f ⟨.host, spi, args, readBytes s.host.xfer 0 4096, s.mb.asm, mem⟩ s)
/-- The command through a host port. -/
def mbCommand (code : Nat) (f : Option (CmdIn → State → CmdAns)) (p : Port) (tag : Half) (mem : List Byte) (s : State) : State :=
  if portUp p s then mbIssue code f (p == .spi) tag mem (portUsed p s) else s

/-- The host command in progress is judged again. -/
def mbSettle (s : State) : State :=
  match s.mb.busy with
  | some b => mbAnswer (cmdDone b s)
  | none => s

/-! ### The rows of Table 16-24 as the host issues them -/

def execNop (p : Port) (tag : Half) (s : State) : Out := .next (mbCommand 0x0000 (some cmdNop) p tag [] s)
def execHostReset (p : Port) (tag : Half) (s : State) : Out := .next (mbCommand 0x0001 (some cmdReset) p tag [] s)
def execTaskStop (p : Port) (tag : Half) (s : State) : Out := .next (mbCommand 0x0010 (some cmdTaskStop) p tag [] s)
def execTaskStart (p : Port) (tag : Half) (s : State) : Out := .next (mbCommand 0x0011 (some cmdTaskStart) p tag [] s)
def execHostEvent (p : Port) (tag : Half) (s : State) : Out := .next (mbCommand 0x0012 (some cmdHostEvent) p tag [] s)
def execHostWrite (p : Port) (tag : Half) (s : State) : Out := .next (mbCommand 0x0013 (some cmdHostWrite) p tag [] s)
def execRegionRestart (p : Port) (tag : Half) (s : State) : Out := .next (mbCommand 0x0020 (some cmdRegionRestart) p tag [] s)
def execChannelRestart (p : Port) (tag : Half) (s : State) : Out := .next (mbCommand 0x0021 (some cmdChannelRestart) p tag [] s)
def execXferAppend (p : Port) (tag : Half) (s : State) : Out := .next (mbCommand 0x0030 (some cmdXferAppend) p tag [] s)
def execXferFetch (p : Port) (tag : Half) (hostMem : List Byte) (s : State) : Out :=
  .next (mbCommand 0x0031 (some cmdXferFetch) p tag hostMem s)
def execXferClear (p : Port) (tag : Half) (s : State) : Out := .next (mbCommand 0x0032 (some cmdXferClear) p tag [] s)
def execImgBegin (p : Port) (tag : Half) (s : State) : Out := .next (mbCommand 0x0040 (some cmdImgBegin) p tag [] s)
def execImgSegment (p : Port) (tag : Half) (s : State) : Out := .next (mbCommand 0x0041 (some cmdImgSegment) p tag [] s)
def execImgEnd (p : Port) (tag : Half) (s : State) : Out := .next (mbCommand 0x0042 (some cmdImgEnd) p tag [] s)
def execImgAbort (p : Port) (tag : Half) (s : State) : Out := .next (mbCommand 0x0043 (some cmdImgAbort) p tag [] s)
def execPsRead (p : Port) (tag : Half) (s : State) : Out := .next (mbCommand 0x0050 (some cmdPsRead) p tag [] s)
def execPsWrite (p : Port) (tag : Half) (s : State) : Out := .next (mbCommand 0x0051 (some cmdPsWrite) p tag [] s)
def execDcntRead (p : Port) (tag : Half) (s : State) : Out := .next (mbCommand 0x0058 (some cmdDcntRead) p tag [] s)
def execDcntInc (p : Port) (tag : Half) (s : State) : Out := .next (mbCommand 0x0059 (some cmdDcntInc) p tag [] s)
def execSwitchover (p : Port) (tag : Half) (s : State) : Out := .next (mbCommand 0x0060 (some cmdSwitchover) p tag [] s)
def execResync (p : Port) (tag : Half) (s : State) : Out := .next (mbCommand 0x0061 (some cmdResync) p tag [] s)
def execUpdBegin (p : Port) (tag : Half) (s : State) : Out := .next (mbCommand 0x0070 (some cmdUpdBegin) p tag [] s)
def execUpdChunk (p : Port) (tag : Half) (s : State) : Out := .next (mbCommand 0x0071 (some cmdUpdChunk) p tag [] s)
def execUpdVerify (p : Port) (tag : Half) (s : State) : Out := .next (mbCommand 0x0072 (some cmdUpdVerify) p tag [] s)
def execUpdActivate (p : Port) (tag : Half) (s : State) : Out := .next (mbCommand 0x0073 (some cmdUpdActivate) p tag [] s)
def execUpdConfirm (p : Port) (tag : Half) (s : State) : Out := .next (mbCommand 0x0074 (some cmdUpdConfirm) p tag [] s)
def execUpdRevert (p : Port) (tag : Half) (s : State) : Out := .next (mbCommand 0x0075 (some cmdUpdRevert) p tag [] s)
def execUpdCancel (p : Port) (tag : Half) (s : State) : Out := .next (mbCommand 0x0076 (some cmdUpdCancel) p tag [] s)

/-! ### Input batches of the host and Trelex queues (R139, R142, R242, R395) -/

/-- One entry of a batch: written when its routing entry names the source, else discarded and counted. A standby discards
what the host and the plant network write (R285). -/
def applyEntry (origin : BitVec 4) (p : State × Nat) (e : WordEntry) : State × Nat :=
  let s := p.1
  match routeOf s.run false e.num with
  | some r =>
    if r.endpoint.setWidth 4 = origin ∧ (origin = 5 ∨ !standby s) then
      (putIw e.num (if origin = 5 then partnerWord s e.num e.data e.tag
        else inputWord s e.num e.data origin (e.tag.setWidth 2)) s, p.2 + 1)
    else ({ s with img := { s.img with foreignExt := satInc s.img.foreignExt } }, p.2)
  | none => ({ s with img := { s.img with foreignExt := satInc s.img.foreignExt } }, p.2)

/-- The command that waits for the batch gets its counts; a Modbus write its response. -/
def batchAnswer (o : CmdOwner) (ok bad : Nat) (s : State) : State :=
  let fill (b : CmdBusy) : CmdBusy := { b with r0 := natAt 0 ok, r1 := natAt 0 bad, fin := true }
  match o with
  | .none => s
  | .host => mbSettle { s with mb := { s.mb with busy := s.mb.busy.map fill } }
  | .es => { s with es := { s.es with busy := s.es.busy.map (fun x => (fill x.1, x.2)) } }
  | .modbus i => let x := conn s i
    if x.opened && x.wait then mbServed i ([0x10] ++ beBytes x.start ++ beBytes x.qty) s else s

/-- The first batch of the host queue or the Trelex queue is applied whole. -/
def inputBatch (trelex : Bool) (s : State) : State :=
  match if trelex then s.img.trelexIn else s.img.hostIn with
  | [] => s
  | b :: rest =>
    let s := if trelex then { s with img := { s.img with trelexIn := rest } } else { s with img := { s.img with hostIn := rest } }
    let r := b.entries.foldl (applyEntry b.origin) (s, 0)
    let s := refreshMirrors (emitRefresh (if trelex then 3 else 2) 0 r.1)
    batchAnswer b.cmd r.2 (b.entries.length - r.2) s

/-- INPUT_BATCH_APPLIED (R139): the batch has been walked on the apply port. -/
def execInputBatchApplied (trelex : Bool) (s : State) : Out :=
  .next (
    let s := portKick s
    if portAt (.input trelex) s then portKick (inputBatch trelex { s with img := { s.img with port := none } }) else s)

/-! ### Restart of a region (Table 2-24) -/

/-- REGION_SELFTEST_DONE. -/
def execRegionSelftestDone (r : RegionId) (pass : Bool) (s : State) : Out := .next (mbSettle (regionSelftestDone r.val pass s))
/-- REGION_LOAD_DONE. -/
def execRegionLoadDone (r : RegionId) (retries : Nat) (failed : Option (Bool × Fin 64)) (s : State) : Out :=
  .next (mbSettle (regionLoadDone r.val retries failed s))
/-- RECESS_EXIT. -/
def execRecessExit (s : State) : Out := .next (recessExit s)
/-- HANDOVER_RELEASE. -/
def execHandoverRelease (s : State) : Out := .next (mbSettle (handoverRelease s))

end Sys2Proof.Machine
end

