-- ==== Sys2Proof/Machine/HostPort.lean ====
section
/-! DEFINITION. The host port (R386–R393): the BAR0 and BAR2 spaces of Table 16-13, what a read latches, what a write does,
interrupts, the snapshot window. -/

namespace Sys2Proof.Machine

/-! ### Interrupts (R390) -/

/-- HOST_IRQ_EN: a vector is sent for each cause that is pending when its enable becomes 1. -/
def irqEnWrite (v : Word) (s : State) : State :=
  let en : Byte := v.setWidth 8
  let send := en &&& ~~~s.host.irqEn &&& s.host.irq &&& ~~~s.host.msixSent
  let n := ((List.range 8).filter (fun i => send.getLsbD i)).length
  { s with host := { s.host with
      irqEn := en, sevMin := (v >>> 24).setWidth 2, msixSent := s.host.msixSent ||| send, msixCount := s.host.msixCount + n } }
/-- HOST_IRQ is W1C; a vector may be sent again once its bit has been cleared. -/
def irqClear (v : Word) (s : State) : State :=
  let irq := s.host.irq &&& ~~~(v.setWidth 8)
  { s with host := { s.host with irq := irq, msixSent := s.host.msixSent &&& irq } }
/-- SPI_IRQ_N is driven low. -/
def spiIrqLow (s : State) : Bool := s.host.irq &&& s.host.irqEn != 0

/-! ### The snapshot window (R391) -/

/-- A snapshot starts: the images as they stand are copied. -/
def snapStart (s : State) : State :=
  if s.host.freeze || s.host.snapBusy then s
  else { s with host := { s.host with snapBusy := true, hideIw := s.img.iw, hideQw := s.img.qw, hideTb := BitVec.ofNat 32 s.tbrd } }
/-- FREEZE set discards the snapshot in progress. -/
def snapFreeze (on : Bool) (s : State) : State :=
  if on then { s with host := { s.host with freeze := true, snapBusy := false, hideIw := [], hideQw := [], hideTb := 0 } }
  else { s with host := { s.host with freeze := false } }
/-- The hidden buffer becomes visible at one edge. -/
def snapShow (s : State) : State :=
  if s.host.snapBusy then
    setIrq 7 { s with host := { s.host with
      snapBusy := false, snapIw := s.host.hideIw, snapQw := s.host.hideQw, snapTb := s.host.hideTb
      hideIw := [], hideQw := [], hideTb := 0, snapSeq := s.host.snapSeq + 1 } }
  else s
/-- IMG_SNAP_CTRL (Table 16-17). A PERIOD above 100 is not taken (log 23). -/
def snapCtrl (v : Word) (s : State) : State :=
  let p : Byte := (v >>> 8).setWidth 8
  let s := snapFreeze (v.getLsbD 0) s
  let s := if p.toNat ≤ 100 then { s with host := { s.host with snapPeriod := p } } else s
  if v.getLsbD 16 then snapStart s else s

/-- The dword of BAR2 at byte offset `o`. -/
def bar2Read (s : State) (o : Nat) : Word :=
  let half (t : Tab ImgWord) : Word :=
    let w := tget {} t (o % 0x40000 / 8)
    if o % 8 = 0 then w.data else w.tag
  if o < 0x40000 then half s.host.snapIw else if o < 0x80000 then half s.host.snapQw else 0

/-! ### Shadows of the reading ports (R389); none is the engineering station -/

def shadowOf (p : Option Port) (s : State) : PortSh :=
  match p with | some .pcie => s.host.pcie | some .spi => s.host.spi | none => s.host.es
def setShadow (p : Option Port) (x : PortSh) (s : State) : State :=
  match p with
  | some .pcie => { s with host := { s.host with pcie := x } }
  | some .spi => { s with host := { s.host with spi := x } }
  | none => { s with host := { s.host with es := x } }

/-- MB_RESULT read: the other result registers are latched (R393). -/
def readMbResult (p : Option Port) (s : State) : Word × State :=
  (atBit 16 s.mb.rseq ||| atBit 0 s.mb.rstat,
   setShadow p { (shadowOf p s) with rtag := s.mb.rtag, rval := s.mb.rval, rdata := s.mb.rdata } s)
/-- RTC_TIME0 read: the date is latched (R338). -/
def readTime0 (p : Option Port) (s : State) : Word × State := (rtcTime0 s.rtc, setShadow p (latchDate (shadowOf p s) s) s)
/-- NET_PTP_SEC_LO read: the whole plant-side time is latched (R244). -/
def readPtp (p : Option Port) (s : State) : Word × State :=
  let sec := s.net.plantNs / 1000000000
  (BitVec.ofNat 32 sec,
   setShadow p { (shadowOf p s) with ptpHi := natAt 0 (sec / 2 ^ 32 % 2 ^ 16), ptpNs := BitVec.ofNat 32 (s.net.plantNs % 1000000000) } s)

/-! ### BAR0 (Table 16-13) -/

/-- SUP_STATUS (Table 16-19). -/
def supStatus (s : State) : Word :=
  let x := s.sup
  let phase : Nat := match x.phase with | .reset => 0 | .run => if dawnGoesOn s then 0 else 1 | .dusk => 2 | .recovery => 3
  natAt 28 phase ||| atBit 24 x.why ||| boolBit 11 x.dieWarn ||| boolBit 10 x.thermWarn ||| boolBit 9 x.stuck
    ||| boolBit 8 x.button ||| boolBit 6 (decide (38000 ≤ x.holdup.toNat)) ||| boolBit 5 x.riding ||| boolBit 4 x.ps2Ok ||| boolBit 3 x.ps1Ok

/-- The supervisor block at offset `o` from 0x0100 (Table 16-18). -/
def supReg (s : State) (o : Nat) : Word :=
  let x := s.sup
  match o with
  | 0x00 => supStatus s
  | 0x04 => resetCause s
  | 0x08 => atBit 0 x.ps1
  | 0x0C => atBit 0 x.ps2
  | 0x10 => atBit 0 x.holdup
  | 0x14 => atBit 0 x.power
  | 0x18 => atBit 16 x.tempDie ||| atBit 0 x.tempBase
  | 0x1C => atBit 16 x.maxDie ||| atBit 0 x.maxBase
  | 0x20 => x.rides
  | 0x24 => atBit 0 x.dawnMs
  | 0x28 => atBit 16 x.btnIgnored ||| atBit 0 x.btnStuckN
  | _ => 0

/-- Identity, configuration, image and host registers, below 0x0080 (Tables 0-2, 2-18, 5-12, 12-9, 16-14). -/
def lowReg (s : State) (o : Nat) : Word :=
  match o with
  | 0x00 => natAt 16 0x4816 ||| atBit 8 Config.hwStep
  | 0x04 => atBit 0 s.variant.code
  | 0x08 => s.variant.units
  | 0x10 => atBit 24 s.cfg.section_ ||| atBit 8 s.cfg.stage ||| atBit 0 s.cfg.status
  | 0x14 => s.gen
  | 0x18 => s.cfg.detail
  | 0x1C => s.cfg.digest
  | 0x20 => s.img.foreignExt
  | 0x24 => natAt 0 s.img.forces.length
  | 0x28 => s.img.retStatus
  | 0x2C => s.img.retSaved
  | 0x60 => atBit 0 s.host.irq
  | 0x64 => atBit 24 s.host.sevMin ||| atBit 0 s.host.irqEn
  | 0x68 => atBit 16 s.host.err0 ||| atBit 0 s.host.err2
  | 0x6C => atBit 8 s.host.snapPeriod ||| boolBit 0 s.host.freeze
  | 0x70 => s.host.snapSeq
  | 0x74 => s.host.snapTb
  | _ => if 0x40 ≤ o ∧ o < 0x60 then storReg s o else 0

/-- The mailbox at offset `o` from 0x0800, through the shadow of the reading port (Table 16-21). -/
def mbReg (p : Option Port) (s : State) (o : Nat) : Word :=
  let sh := shadowOf p s
  if o < 0x20 then tget 0 s.mb.args (o / 4)
  else if o = 0x24 then atBit 16 s.mb.issued ||| boolBit 1 s.mb.lost ||| boolBit 0 s.mb.busy.isSome
  else if o = 0x28 then asmLen s
  else if o = 0x44 then sh.rtag
  else if 0x48 ≤ o ∧ o < 0x68 then sh.rval.getD ((o - 0x48) / 4) 0
  else if 0x100 ≤ o ∧ o < 0x200 then fieldW sh.rdata (o - 0x100)
  else 0

/-- The network block at offset `o` from 0x1800 (Tables 9-9 to 9-11). -/
def netReg (p : Option Port) (s : State) (o : Nat) : Word :=
  let n := s.net
  let u := loadOf s.run
  match o with
  | 0x00 => atBit 8 n.links ||| atBit 0 n.ring
  | 0x04 => if n.ring = 3 then 0xFFFFFFFF else n.rtt
  | 0x08 => natAt 0 (u.1 * 8 / u.2 % 65536)
  | 0x0C => n.breaks
  | 0x10 => n.krioDisc
  | 0x14 => n.late
  | 0x18 => n.plantDisc
  | 0x1C => n.shaciaDisc
  | 0x20 => n.mbReq
  | 0x24 => n.mbRefused
  | 0x28 => boolBit 8 n.ptpLocked ||| natAt 4 n.ppsUse.toNat ||| atBit 0 n.ptpState
  | 0x2C => n.ptpOffset
  | 0x34 => (shadowOf p s).ptpHi
  | 0x38 => (shadowOf p s).ptpNs
  | _ => if 0x100 < o ∧ o < 0x4FC then stationReg s ((o - 0x100) / 4) else 0

/-- A dword of BAR0 whose read latches nothing. -/
def bar0Value (p : Option Port) (s : State) (o : Nat) : Word :=
  if o < 0x80 then lowReg s o
  else if o < 0x100 then 0
  else if o < 0x400 then supReg s (o - 0x100)
  else if o < 0x800 then taskReg (s.tcfg ((o - 0x400) / 32)) (s.task ((o - 0x400) / 32)) (o % 32)
  else if o < 0xC00 then mbReg p s (o - 0x800)
  else if o < 0x1000 then (if o = 0xC04 then (shadowOf p s).rtc1 else rtcReg s o)
  else if o < 0x1400 then redReg s (o - 0x1000)
  else if o < 0x1800 then safetyReg s (o - 0x1400)
  else if o < 0x2000 then netReg p s (o - 0x1800)
  else if o < 0x3000 then diaryReg s (o - 0x2000)
  else if o < 0x4000 then updReg s (o - 0x3000)
  else if o < 0x7000 then chanReg s ((o - 0x4000) / 256) (o % 256)
  else if o < 0x8000 then 0
  else if o < 0x8800 then regionReg (regionOwner s.run ((o - 0x8000) / 128)) (s.region ((o - 0x8000) / 128)) (o % 128)
  else if o < 0x9000 then 0
  else if o < 0xA000 then fieldW (readBytes s.host.xfer (o - 0x9000) 4) 0
  else if 0xE000 ≤ o ∧ o < 0xE080 then fieldW (readBytes s.host.msixTable (o - 0xE000) 4) 0
  else 0

/-- A dword of the configuration space that the model holds: identity, Command, BAR0 and the 64-bit prefetchable BAR2 (Table 16-11,
log 23). -/
def configReg (s : State) (o : Nat) : Word :=
  match o with
  | 0x00 => 0x48161F0C
  | 0x04 => s.host.command.setWidth 32
  | 0x08 => 0x11800000 ||| atBit 0 Config.hwStep
  | 0x10 => s.host.bar0
  | 0x18 => s.host.bar2.setWidth 32 ||| 0xC
  | 0x1C => (s.host.bar2 >>> 32).setWidth 32
  | _ => 0

/-- One aligned read of a dword of BAR0 with its side effects. RED_LINK_LOAD and NET_RTT_NS are measured values; the former is
free at each read (log 12). -/
def bar0Read (p : Option Port) (o : Nat) (s : State) : Word × State :=
  let r : Word × State :=
    if o = 0x840 then readMbResult p s
    else if o = 0xC00 then readTime0 p s
    else if o = 0x1830 then readPtp p s
    else if o = 0x1008 ∧ s.variant.redundancy then (let a := s.drawWord; (a.1 &&& 0xFFFF, a.2))
    else (bar0Value p s o, s)
  (r.1, setShadow p { (shadowOf p r.2) with last := r.1 } r.2)

/-- A BAR0 access or SPI frame discarded (Table 16-14). -/
def discard0 (s : State) : State := { s with host := { s.host with err0 := satInc s.host.err0 } }
/-- A BAR2 write discarded. -/
def discard2 (s : State) : State := { s with host := { s.host with err2 := satInc s.host.err2 } }

/-- A host read of `size` bytes (R388): a narrower read of BAR0 returns the addressed bytes of its dword and has the dword's side
effects, one that crosses a dword is discarded and counted (log 23); BAR2 gives aligned reads of 4 and 8 bytes, and what another
read of it returns is free (log 3). -/
def hostRead (p : Port) (space : HostSpace) (off size : Nat) (s : State) : Dword × State :=
  match space with
  | .bar0 =>
    if size = 0 ∨ 4 < off % 4 + size then (0, discard0 s)
    else
      let r := bar0Read (some p) (off / 4 * 4) s
      (BitVec.ofNat 64 (r.1.toNat / 2 ^ (8 * (off % 4)) % 2 ^ (8 * size)), r.2)
  | .bar2 =>
    if size = 4 ∧ off % 4 = 0 then ((bar2Read s off).setWidth 64, s)
    else if size = 8 ∧ off % 8 = 0 then (BitVec.ofNat 64 ((bar2Read s off).toNat + 2 ^ 32 * (bar2Read s (off + 4)).toNat), s)
    else (let a := s.drawWord; (a.1.setWidth 64, a.2))
  | .config => ((configReg s (off / 4 * 4)).setWidth 64, s)

/-- TT_MAX_NS takes the value written (Table 5-4). -/
def taskMaxWrite (t : Nat) (v : Word) (s : State) : State :=
  if (s.tcfg t).kind = 0 then s else s.modTask t (fun x => { x with maxNs := v })
/-- TT fault flags that writing 1 clears (Table 5-6). -/
def taskFaultClear (t : Nat) (v : Word) (s : State) : State := s.modTask t (fun x => { x with fault := w1c x.fault v tfW1c })

/-- What an XFER_FETCH issued by a plain write of MB_CMD finds in host memory: free values (log 3). -/
def fetchBytes (v : Word) (s : State) : List Byte × State :=
  let n := (tget 0 s.mb.args 2).toNat
  if v.setWidth 16 = (0x0031 : Half) ∧ s.mb.busy.isNone ∧ n ≤ 65536 then
    ((List.range n).map (fun i => (Config.freeWord (s.free + i)).setWidth 8), { s with free := s.free + n })
  else ([], s)

/-- One aligned write of a dword of BAR0: the registers with RW, WO or W1C fields; any other offset takes no effect (R388).
A write by the engineering station to MB_CMD counts as one through PCIe (log 23). -/
def bar0Write (p : Option Port) (o : Nat) (v : Word) (s : State) : State :=
  if o = 0x40 then (if v.getLsbD 5 then { s with stor := { s.stor with psFallback := false } } else s)
  else if o = 0x60 then irqClear v s
  else if o = 0x64 then irqEnWrite v s
  else if o = 0x6C then snapCtrl v s
  else if 0x400 ≤ o ∧ o < 0x800 then
    (if o % 32 = 0x14 then taskFaultClear ((o - 0x400) / 32) v s
     else if o % 32 = 0x0C then taskMaxWrite ((o - 0x400) / 32) v s else s)
  else if 0x800 ≤ o ∧ o < 0x820 then { s with mb := { s.mb with args := tset 0 s.mb.args ((o - 0x800) / 4) v } }
  else if o = 0x820 then
    let m := fetchBytes v s
    mbIssue (v.toNat % 65536) (commandOf (v.toNat % 65536)) (p == some .spi) ((v >>> 16).setWidth 16) m.1 m.2
  else if o = 0x824 then (if v.getLsbD 1 then { s with mb := { s.mb with lost := false } } else s)
  else if 0xC00 ≤ o ∧ o < 0x1000 then rtcWrite o v s
  else if o = 0x2020 then
    let s := if v.getLsbD 0 then diaSnap s else s
    if v.getLsbD 1 then diaNext s else s
  else if o = 0x202C then diaCursorWrite v s
  else if 0x4000 ≤ o ∧ o < 0x7000 then (if o % 256 = 0x84 then chanDiagWrite ((o - 0x4000) / 256) v s else s)
  else if 0x9000 ≤ o ∧ o < 0xA000 then { s with host := { s.host with xfer := writeBytes s.host.xfer (o - 0x9000) (wordBytes v) } }
  else if 0xE000 ≤ o ∧ o < 0xE080 then
    { s with host := { s.host with msixTable := writeBytes s.host.msixTable (o - 0xE000) (wordBytes v) } }
  else s

/-- The bits that a write of `size` bytes at byte `off` of its dword carries into the register `old` under `mask`. -/
def writeLane (old : Word) (off size : Nat) (mask v : Word) : Word :=
  let lanes : Word := BitVec.ofNat 32 (2 ^ (8 * off) * (2 ^ (8 * size) - 1)) &&& mask
  (old &&& ~~~lanes) ||| ((v <<< (8 * off)) &&& lanes)
/-- A write to the configuration space, of which the model holds the Command register and the BARs (log 23). -/
def configWrite (off size : Nat) (v : Word) (s : State) : State :=
  let o := off % 4
  let h := s.host
  match off / 4 * 4 with
  | 0x04 => { s with host := { h with command := (writeLane (h.command.setWidth 32) o size 0x0546 v).setWidth 16 } }
  | 0x10 => { s with host := { h with bar0 := writeLane h.bar0 o size 0xFFFF0000 v } }
  | 0x18 =>
    let lo := writeLane (h.bar2.setWidth 32) o size 0xFFF00000 v
    { s with host := { h with bar2 := BitVec.ofNat 64 (lo.toNat + 2 ^ 32 * (h.bar2 >>> 32).toNat) } }
  | 0x1C =>
    let hi := writeLane ((h.bar2 >>> 32).setWidth 32) o size 0xFFFFFFFF v
    { s with host := { h with bar2 := BitVec.ofNat 64 (h.bar2.toNat % 2 ^ 32 + 2 ^ 32 * hi.toNat) } }
  | _ => s

/-- A host write of `size` bytes: BAR2 takes none; BAR0 takes aligned dwords (R388); the configuration space is that of PCI Express
alone, and open while the link is up. -/
def hostWriteReg (p : Port) (space : HostSpace) (off size : Nat) (v : Word) (s : State) : State :=
  if space = .config then (if p = .pcie ∧ s.up ∧ s.host.pcieUp then configWrite off size v s else s)
  else if !portUp p s then s
  else
    let s := portUsed p s
    if space = .bar2 then discard2 s
    else if size ≠ 4 ∨ off % 4 ≠ 0 then discard0 s
    else bar0Write (some p) off v s

/-! ### The rows -/

/-- While the host port answers. -/
def whenUp (f : State → State) (s : State) : Out := .next (if s.up then f s else s)
/-- A read through port `p`. -/
def portRead (p : Port) (o : Nat) (s : State) : Out :=
  .next (if portUp p s then (hostRead p .bar0 o 4 (portUsed p s)).2 else s)

/-- MB_RESULT_READ. -/
def execMbResultRead (p : Port) (s : State) : Out := portRead p 0x840 s
/-- RTC_TIME0_READ. -/
def execRtcTime0Read (p : Port) (s : State) : Out := portRead p 0xC00 s
/-- NET_PTP_SEC_LO_READ. -/
def execNetPtpSecLoRead (p : Port) (s : State) : Out := portRead p 0x1830 s
/-- TAKE. -/
def execTake (s : State) : Out := whenUp snapStart s
/-- FREEZE. -/
def execFreeze (on : Bool) (s : State) : Out := whenUp (snapFreeze on) s
/-- SNAPSHOT_PERIOD: with PERIOD 0 only TAKE starts a snapshot. -/
def execSnapshotPeriod (s : State) : Out := whenUp (fun s => if s.host.snapPeriod = 0 then s else snapStart s) s
/-- SNAPSHOT_DONE. -/
def execSnapshotDone (s : State) : Out := whenUp snapShow s
/-- HOST_IRQ_EN_WRITE. -/
def execHostIrqEnWrite (v : Word) (s : State) : Out := whenUp (irqEnWrite v) s
/-- HOST_REGISTER_WRITE. -/
def execHostRegisterWrite (p : Port) (space : HostSpace) (off size : Nat) (v : Word) (s : State) : Out :=
  .next (hostWriteReg p space off size v s)
/-- SPI_FRAME_INVALID: counted; SPI_MISO is low until the frame ends. -/
def execSpiFrameInvalid (s : State) : Out :=
  whenUp (fun s => let s := discard0 s; { s with host := { s.host with spiLow := true } }) s
/-- PERST_N: the endpoint's configuration space and MSI-X table return to their reset values, everything else runs on (R386,
R387). The link that the host then trains is up (log 23). -/
def execPerstN (s : State) : Out :=
  whenUp (fun s => { s with host := { s.host with msixTable := [], command := 0, bar0 := 0, bar2 := 0, pcieUp := true } }) s

end Sys2Proof.Machine
end

