-- ==== Sys2Proof/Machine/Engineering.lean ====
section
/-! DEFINITION. The engineering service (R234–R240): sessions, messages and their order, the operations of Table 9-13. -/

namespace Sys2Proof.Machine

/-! ### Sessions -/

def sesOf (s : State) (i : SesId) : SesSt := if i = 0 then s.es.s0 else s.es.s1
def setSes (i : SesId) (x : SesSt) (s : State) : State :=
  if i = 0 then { s with es := { s.es with s0 := x } } else { s with es := { s.es with s1 := x } }
def modSes (i : SesId) (f : SesSt → SesSt) (s : State) : State := setSes i (f (sesOf s i)) s

/-- A message (Table 9-12). -/
def esMessage (op flags : Nat) (reqId : Word) (status : Nat) (body : List Byte) : List Byte :=
  leBytes 4 (16 + body.length) ++ leBytes 2 op ++ leBytes 2 flags ++ wordBytes reqId ++ leBytes 4 status ++ body
/-- The module sends a message in a session. -/
def esSend (i : SesId) (m : List Byte) (s : State) : State := modSes i (fun x => { x with resp := m, sent := x.sent + 1 }) s

/-! ### Answers (Table 9-14) -/

def stOk : Nat := 0
def stRefused : Nat := 1
def stBadMessage : Nat := 2
def stUnknownOp : Nat := 3
def stBusy : Nat := 4
def stState : Nat := 5
def stCapacity : Nat := 6
def stBadArg : Nat := 7
def stAbsent : Nat := 8

/-- STATUS and body, or none while the request waits. A refused request has an empty body (log 24). -/
abbrev EsAns := Option (Nat × List Byte) × State
def esAns (status : Nat) (body : List Byte) (s : State) : EsAns := (some (status, body), s)
def esOk (body : List Byte) (s : State) : EsAns := esAns stOk body s
def esErr (status : Nat) (s : State) : EsAns := esAns status [] s
def nBytes (n : Nat) : List Byte := leBytes 4 n

/-! ### Sessions and registers -/

/-- HELLO: the first session that asks receives write rights; a repeated HELLO asks again (log 24). -/
def esHello (i : SesId) (b : List Byte) (s : State) : EsAns :=
  if 4 ≤ field b 0 4 then esErr stBadArg s
  else
    let grant := (sesOf s i).write || ((fieldB b 0).getLsbD 0 && !s.es.s0.write && !s.es.s1.write)
    let s := modSes i (fun x => { x with hello := true, write := grant, notify := (fieldB b 0).getLsbD 1, bits := 0 }) s
    esOk (wordBytes (lowReg s 0) ++ wordBytes (lowReg s 4) ++ wordBytes (lowReg s 8) ++ wordBytes (updReg s 4) ++ wordBytes s.gen
      ++ nBytes grant.toNat ++ nBytes i.val) s
def esRelease (i : SesId) (s : State) : EsAns := esOk [] (modSes i (fun x => { x with write := false }) s)

/-- Successive dwords from `o`, each as one host read. -/
def regReads : Nat → Nat → State → List Byte × State
  | 0, _, s => ([], s)
  | n + 1, o, s =>
    let r := bar0Read none o s
    let rest := regReads n (o + 4) r.2
    (wordBytes r.1 ++ rest.1, rest.2)
/-- A range of dwords inside BAR0. -/
def regRange (b : List Byte) (max : Nat) : Bool :=
  let n := field b 4 4
  decide (field b 0 4 % 4 = 0) && decide (1 ≤ n) && decide (n ≤ max) && decide (field b 0 4 + 4 * n ≤ 0x10000)
def esRegRead (b : List Byte) (s : State) : EsAns :=
  if !regRange b 1024 then esErr stBadArg s
  else let r := regReads (field b 4 4) (field b 0 4) s; esOk r.1 r.2
def esRegWrite (b : List Byte) (s : State) : EsAns :=
  if !regRange b 256 then esErr stBadArg s
  else esOk [] ((List.range (field b 4 4)).foldl (fun s k => bar0Write none (field b 0 4 + 4 * k) (fieldW b (8 + 4 * k)) s) s)

/-- IMAGE_READ: words with their tags from one snapshot. -/
def esImageRead (b : List Byte) (s : State) : EsAns :=
  let first := field b 4 4
  let n := field b 8 4
  if 1 < field b 0 4 ∨ n = 0 ∨ 4096 < n ∨ 32768 < first + n then esErr stBadArg s
  else
    let word (k : Nat) : List Byte :=
      let w := if field b 0 4 = 0 then s.iwGet k else s.qwGet k
      wordBytes w.data ++ wordBytes w.tag
    esOk (nBytes (s.tbrd % 2 ^ 32) ++ (List.range n).flatMap (fun k => word (first + k))) s

/-! ### EXEC (R237) -/

def freeCode (code : Nat) : Bool := code == 0x0000 || code == 0x0050 || code == 0x0058
def cmdBody (r : CmdRes) : List Byte :=
  [r.status, 0, 0, 0] ++ (padTo 32 (r.rv.flatMap wordBytes)) ++ padTo 256 r.data

/-- EXEC on the engineering station's own command path: while a command of a session since closed goes on there, BUSY. -/
def esExec (i : SesId) (b : List Byte) (s : State) : EsAns :=
  let code := field b 0 2
  if field b 2 2 ≠ 0 then esErr stBadArg s
  else if s.es.busy.isSome ∧ !freeCode code then esErr stBusy s
  else
    let args := (List.range 8).map (fun k => fieldW b (4 + 4 * k))
    let a := runCommand code (commandOf code) ⟨.es, false, args, b.drop 36, b.drop 36, []⟩ s
    match a.1 with
    | some r => esOk (cmdBody r) a.2
    | none =>
      if freeCode code then (none, a.2)
      else
        let c : CmdBusy := { code := BitVec.ofNat 16 code, args := args }
        (none, { a.2 with es := { a.2.es with busy := some (c, some i) } })

/-! ### Forces and simulations (R131, R132, R238) -/

def sameEntry (a b : ForceEntry) : Bool := a.out == b.out && a.num == b.num
def putEntry (f : ForceEntry) (l : List ForceEntry) : List ForceEntry :=
  if l.any (sameEntry f) then l.map (fun e => if sameEntry f e then f else e) else l ++ [f]
def setForces (l : List ForceEntry) (s : State) : State := { s with img := { s.img with forces := l } }
def setSims (l : List ForceEntry) (s : State) : State := { s with img := { s.img with sims := l } }
def entryIndex (f : ForceEntry) : Half := BitVec.ofNat 16 (f.num + if f.out then 32768 else 0)
/-- The entry in a DELTA record (Table 11-16): KIND 5 a force, 6 a simulation. -/
def forceDelta (on : Bool) (f : ForceEntry) : DeltaEntry := ⟨5, entryIndex f, wordBytes f.data ++ [BitVec.ofNat 8 on.toNat]⟩
def simDelta (on : Bool) (f : ForceEntry) : DeltaEntry :=
  ⟨6, entryIndex f, wordBytes f.data ++ [BitVec.ofNat 8 f.qual.toNat, BitVec.ofNat 8 on.toNat]⟩
/-- The word that WORD names, when its reserved bits are 0 and it has a routing entry. -/
def entryWord? (s : State) (w : Word) : Option (Bool × Nat) :=
  if 65536 ≤ w.toNat then none
  else if (routeOf s.run (w.getLsbD 15) (w.toNat % 32768)).isSome then some (w.getLsbD 15, w.toNat % 32768)
  else none

def esForceSet (b : List Byte) (s : State) : EsAns :=
  match entryWord? s (fieldW b 0) with
  | none => esErr stBadArg s
  | some (o, n) =>
    let f : ForceEntry := ⟨o, n, fieldW b 4, 0⟩
    if 512 ≤ s.img.forces.length ∧ !s.img.forces.any (sameEntry f) then esErr stCapacity s
    else
      let l := putEntry f s.img.forces
      esOk (nBytes l.length) (emitDelta 0xFF 0 [forceDelta true f] (setForces l s))
def esForceClear (b : List Byte) (s : State) : EsAns :=
  if fieldW b 0 = 0xFFFFFFFF then
    esOk (nBytes 0) (emitDelta 0xFF 0 (s.img.forces.map (forceDelta false)) (setForces [] s))
  else match entryWord? s (fieldW b 0) with
  | none => esErr stBadArg s
  | some (o, n) =>
    let f : ForceEntry := ⟨o, n, 0, 0⟩
    let l := s.img.forces.filter (fun e => !sameEntry f e)
    esOk (nBytes l.length) (emitDelta 0xFF 0 (if l.length = s.img.forces.length then [] else [forceDelta false f]) (setForces l s))
def esForceList (s : State) : EsAns :=
  esOk (nBytes s.img.forces.length
    ++ s.img.forces.flatMap (fun f => nBytes (entryIndex f).toNat ++ wordBytes f.data)) s

def esSimSet (b : List Byte) (s : State) : EsAns :=
  match entryWord? s (fieldW b 0) with
  | none => esErr stBadArg s
  | some (o, n) =>
    let f : ForceEntry := ⟨false, n, fieldW b 4, BitVec.ofNat 2 (field b 8 4)⟩
    if o ∨ 3 < field b 8 4 then esErr stBadArg s
    else if 512 ≤ s.img.sims.length ∧ !s.img.sims.any (sameEntry f) then esErr stCapacity s
    else
      let l := putEntry f s.img.sims
      esOk (nBytes l.length) (emitDelta 0xFF 0 [simDelta true f] (setSims l s))
def esSimClear (b : List Byte) (s : State) : EsAns :=
  if fieldW b 0 = 0xFFFFFFFF then
    esOk (nBytes 0) (emitDelta 0xFF 0 (s.img.sims.map (simDelta false)) (setSims [] s))
  else match entryWord? s (fieldW b 0) with
  | none => esErr stBadArg s
  | some (o, n) =>
    if o then esErr stBadArg s
    else
      let f : ForceEntry := ⟨false, n, 0, 0⟩
      let l := s.img.sims.filter (fun e => !sameEntry f e)
      esOk (nBytes l.length) (emitDelta 0xFF 0 (if l.length = s.img.sims.length then [] else [simDelta false f]) (setSims l s))
def esSimList (s : State) : EsAns :=
  esOk (nBytes s.img.sims.length
    ++ s.img.sims.flatMap (fun f => nBytes f.num ++ wordBytes f.data ++ nBytes f.qual.toNat)) s

/-! ### Diary and clock (R239) -/

def setEsReader (r : DiaReader) (s : State) : State := { s with diary := { s.diary with es := r } }
/-- DIARY_SNAP on the engineering station's own snapshot. -/
def esDiarySnap (s : State) : EsAns :=
  let r := diaLatch s s.diary.es
  let p := r.snap.getD (0, 0)
  esOk (wordBytes p.1 ++ wordBytes p.2) (setEsReader r { s with free := s.free + 1 })

/-- The record at `q` and what NEXT would load after it: the records with the first GAP, and the reader after the last. -/
def diaryRun (s : State) : Nat → Word → DiaReader → List DRec × DiaReader
  | 0, _, r => ([], r)
  | n + 1, q, r =>
    let r := diaLoad s (diaRequest s.diary.ready q r)
    if r.result = rdReady then
      match r.record with
      | some x => let t := diaryRun s n (x.seq + 1) r; (x :: t.1, t.2)
      | none => ([], r)
    else ([], r)
/-- DIARY_READ. RESULT is that of the last load made (log 24). -/
def esDiaryRead (b : List Byte) (s : State) : EsAns :=
  let n := field b 4 4
  if n = 0 ∨ 1000 < n then esErr stBadArg s
  else
    let q := fieldW b 0
    let t := diaryRun s n q s.diary.es
    let gap := match t.1 with | x :: _ => min (x.seq - q).toNat 0xFFFF | [] => 0
    esOk (nBytes t.2.result.toNat ++ nBytes gap ++ nBytes t.1.length ++ t.1.flatMap recBytes)
      (setEsReader { t.2 with cursor := q } s)

/-- CLOCK_SET: as a host write of RTC_SET0, RTC_SET1 and RTC_CMD, with values of its own. -/
def esClockSet (b : List Byte) (s : State) : EsAns :=
  let s := rtcCommand (fieldB b 8) (fieldW b 0 &&& 0xFFFF8000) (fieldW b 4 &&& 0xFFFFF880) s
  esOk (nBytes s.rtc.result.toNat) s

/-! ### Settings (Table 9-15) -/

/-- A setting never written has length 0 (log 24). -/
def esSettingRead (b : List Byte) (s : State) : EsAns :=
  if (settingPage (field b 0 4)).isNone then esErr stBadArg s
  else
    let v := (setting s (field b 0 4)).getD []
    esOk (nBytes v.length ++ v) (match settingPage (field b 0 4) with | some p => servePages p s | none => s)

/-- One DER element: its tag, its contents and what follows. A length takes the fewest bytes that hold it. -/
def derElement (bs : List Byte) : Option (Byte × List Byte × List Byte) :=
  match bs with
  | t :: n :: rest =>
    let k := n.toNat - 128
    let len := if n.toNat < 128 then n.toNat else ((rest.take k).foldl (fun a b => 256 * a + b.toNat) 0)
    let body := if n.toNat < 128 then rest else rest.drop k
    let least := decide (n.toNat < 128) || (decide (k = 1) && decide (128 ≤ len)) || (decide (k = 2) && decide (256 ≤ len))
    if least && decide (len ≤ body.length) then some (t, body.take len, body.drop len) else none
  | _ => none
/-- The outline of an X.509 certificate: one sequence of a sequence, a sequence and a bit string. -/
def derCert (v : List Byte) : Bool :=
  match derElement v with
  | some (0x30, c, []) => match derElement c with
    | some (0x30, _, d) => match derElement d with
      | some (0x30, _, e) => match derElement e with
        | some (0x03, _, []) => true
        | _ => false
      | _ => false
    | _ => false
  | _ => false
/-- The value lies in the range of Table 9-15. -/
def settingValid (id : Nat) (v : List Byte) : Bool :=
  let flag : Bool := v.getD 0 0 == 0 || v.getD 0 0 == 1
  if 1 ≤ id ∧ id ≤ 4 then v.length == 32
  else if id = 5 ∨ id = 0x30 then v.length == 1 && flag
  else if id = 0x10 ∨ id = 0x11 then v.length == 12
  else if id = 0x12 then v.length == 13 && flag
  else if id = 0x13 then v.length == 3 && (v.getD 2 0 == 0 || v.getD 2 0 == 1)
  else if 0x20 ≤ id ∧ id ≤ 0x27 then v == [0] || (decide (v.length ≤ 2048) && derCert v && Config.certWellFormed v)
  else if id = 0x31 then v.length == 4 && (ofLe v == 0 || (decide (60 ≤ ofLe v) && decide (ofLe v ≤ 604800)))
  else false
/-- A write that would leave no TLS trust anchor. -/
def dropsLastAnchor (s : State) (id : Nat) (v : List Byte) : Bool :=
  decide (0x20 ≤ id) && decide (id ≤ 0x27) && v == [0] && (anchors s).all (fun a => a.1 + 0x20 == id)
/-- FLOOD_POLICY and the PPS_IN enable take effect at once. -/
def settingEffect (id : Nat) (s : State) : State :=
  if id = 0x30 then { s with diary := { s.diary with fill := floodFill s } }
  else if id = 0x13 then { s with net := { s.net with ppsUse := s.net.ppsUse && ppsInEnabled s } }
  else s
def esSettingWrite (b : List Byte) (s : State) : EsAns :=
  let id := field b 0 4
  let v := b.drop 8
  if !settingValid id v || dropsLastAnchor s id v then esErr stBadArg s
  else if s.sup.phase = .dusk then (none, s)
  else if !s.stor.ready || !pageRate s v || !psRoom s then esErr stBusy s
  else esOk [] (settingEffect id (setSetting id v s))

/-! ### Safety operations (R247, R268–R271) -/

/-- Codes of Table 10-14. -/
def scOk : Nat := 0
def scLocked : Nat := 2
def scWrong : Nat := 3
def scNoPassword : Nat := 4
def scVersionOld : Nat := 5
def scLogFull : Nat := 6

/-- The first 16 bytes of the SHA-256 of the session's client certificate (Table 10-15). -/
def certId (s : State) (i : SesId) : List Byte := (sha256 (sesOf s i).cert).take 16
/-- A password as it travels: padded with 0x00 to 32 bytes. -/
def passwordIn (b : List Byte) (off : Nat) : List Byte := ((b.drop off).take 32).reverse.dropWhile (· == 0) |>.reverse
/-- 8 to 32 printable ASCII characters. -/
def passwordOk (p : List Byte) : Bool :=
  decide (8 ≤ p.length) && p.all (fun c => decide (0x20 ≤ c.toNat) && decide (c.toNat ≤ 0x7E))

/-- The checks of a password: the code that refuses it, with the wrong one counted, or OK with the count reset (R269). -/
def passwordCheck (pw : List Byte) (s : State) : Nat × State :=
  if pwLocked s then (scLocked, s)
  else if !passwordSet s then (scNoPassword, s)
  else if passwordIs s pw then (scOk, pwRight s)
  else (scWrong, pwWrong s)

def esSafetySeal (i : SesId) (b : List Byte) (s : State) : EsAns :=
  let crc := fieldW b 32
  let ver := fieldW b 36
  let k := passwordCheck (passwordIn b 0) s
  let old := match s.safe.accSeal with | some a => decide (ver ≤ a.2) | none => false
  if s.sup.phase = .dusk then (none, s)
  else if k.1 ≠ scOk then esOk (nBytes k.1) k.2
  else if old then esOk (nBytes scVersionOld) k.2
  else if logFree s ≤ 64 then esOk (nBytes scLogFull) k.2
  else
    let s := logAppend 1 crc ver 0 (certId s i) k.2
    esOk (nBytes scOk) { s with safe := { s.safe with accSeal := some (crc, ver) } }

/-- SAFETY_PASSWORD. A new password of another form is BAD_ARG; a first password whose OLD is not 32 bytes of 0 is
PASSWORD_WRONG and not counted; without a free record the answer is LOG_FULL (log 24). -/
def esSafetyPassword (i : SesId) (b : List Byte) (s : State) : EsAns :=
  let new_ := passwordIn b 32
  let k := if passwordSet s then passwordCheck (passwordIn b 0) s
    else if pwLocked s then (scLocked, s)
    else if (b.take 32).all (· == 0) then (scOk, s) else (scWrong, s)
  if s.sup.phase = .dusk then (none, s)
  else if !passwordOk new_ then esErr stBadArg s
  else if k.1 ≠ scOk then esOk (nBytes k.1) k.2
  else if logFree s = 0 then esOk (nBytes scLogFull) k.2
  else if !pageRate s (pwHash new_) || !psRoom s then esErr stBusy s
  else esOk (nBytes scOk)
    (logAppend (if passwordSet s then 4 else 3) 0 0 0 (certId s i) (setPageValue passwordPage (pwHash new_) k.2))

/-- What SAFETY_LOG_CLEAR keeps: the newest SEALED and ACTIVATED records. -/
def logKeep (l : List LogRec) : List LogRec :=
  let last (k : Byte) : Option Word := ((l.filter (fun r => r.kind == k)).getLast?).map (·.seq)
  l.filter (fun r => (r.kind == 1 && some r.seq == last 1) || (r.kind == 2 && some r.seq == last 2))
/-- SAFETY_LOG_CLEAR; the CLEARED record names the accepted seal (log 24). -/
def esSafetyLogClear (i : SesId) (b : List Byte) (s : State) : EsAns :=
  let k := passwordCheck (passwordIn b 0) s
  if s.sup.phase = .dusk then (none, s)
  else if k.1 ≠ scOk then esOk (nBytes k.1 ++ nBytes 0) k.2
  else
    let keep := logKeep s.safe.log
    let n := s.safe.log.length - keep.length
    let seal_ := s.safe.accSeal.getD (0, 0)
    let s := logAppend 6 seal_.1 seal_.2 (natAt 0 n) (certId s i)
      (eraseRange changeLogBase 32 { k.2 with safe := { k.2.safe with log := keep } })
    esOk (nBytes scOk ++ nBytes n) s

/-- SAFETY_RESTART: the self-test of SAFE_STOP runs again; the answer follows its end. -/
def esSafetyRestart (i : SesId) (s : State) : EsAns :=
  if s.safe.st ≠ .stop then esErr stState s
  else
    let s := setSafe .selftest s
    (none, { s with es := { s.es with safeRestart := some i } })

/-- SAFETY_LOG_READ: from the record with LOG_SEQ, or the next one present. -/
def esSafetyLogRead (b : List Byte) (s : State) : EsAns :=
  let n := field b 4 4
  if n = 0 ∨ 1000 < n then esErr stBadArg s
  else
    let l := (s.safe.log.filter (fun r => decide ((r.seq - fieldW b 0).toNat < 2 ^ 31))).take n
    esOk (nBytes l.length ++ l.flatMap logBytes) s

/-- SAFETY_ERASE: password, accepted seal and the safety section of the running image go together; every record stays. -/
def esSafetyErase (i : SesId) (s : State) : EsAns :=
  if s.sup.phase ≠ .recovery then esErr stState s
  else if !pageRate s [] || !psRoom s then esErr stBusy s
  else
    let seal_ := s.safe.accSeal.getD (0, 0)
    let s := setPageValue passwordPage [] s
    let s := { s with safe := { s.safe with accSeal := none }, cfg := { s.cfg with flash := { s.cfg.flash with safety := none } } }
    esOk [] (logAppend 7 seal_.1 seal_.2 0 (certId s i) s)

/-! ### Requests (R235, R236) -/

/-- The body's length is that of Table 9-13; an unlisted OP has none. -/
def bodyOk (op : Nat) (b : List Byte) : Bool :=
  let n := b.length
  match op with
  | 0x01 => n == 4 | 0x02 => n == 0 | 0x10 => n == 8 | 0x11 => n == 8 + 4 * field b 4 4 | 0x12 => n == 12
  | 0x20 => decide (36 ≤ n) && decide (n ≤ 36 + 65536)
  | 0x30 => n == 8 | 0x31 => n == 4 | 0x32 => n == 0 | 0x33 => n == 12 | 0x34 => n == 4 | 0x35 => n == 0
  | 0x40 => n == 0 | 0x41 => n == 8 | 0x50 => n == 12 | 0x60 => n == 4 | 0x61 => n == 8 + field b 4 4
  | 0x70 => n == 40 | 0x71 => n == 64 | 0x72 => n == 32 | 0x73 => n == 0 | 0x74 => n == 8 | 0x75 => n == 0
  | _ => true

def opListed (op : Nat) : Bool :=
  [0x01, 0x02, 0x10, 0x11, 0x12, 0x20, 0x30, 0x31, 0x32, 0x33, 0x34, 0x35, 0x40, 0x41, 0x50, 0x60, 0x61, 0x70, 0x71, 0x72, 0x73,
    0x74, 0x75].contains op
/-- The Write column of Table 9-13 and R237. -/
def opWrites (op : Nat) (b : List Byte) : Bool :=
  [0x11, 0x30, 0x31, 0x33, 0x34, 0x50, 0x61, 0x70, 0x71, 0x72, 0x73, 0x75].contains op || (op == 0x20 && !freeCode (field b 0 2))
/-- Not valid in recovery boot, where no image runs (log 24). -/
def opNoRecovery (op : Nat) : Bool := [0x30, 0x31, 0x33, 0x34, 0x70, 0x71, 0x72, 0x73].contains op

/-- The operation itself. -/
def esOperation (i : SesId) (op : Nat) (b : List Byte) (s : State) : EsAns :=
  match op with
  | 0x01 => esHello i b s | 0x02 => esRelease i s
  | 0x10 => esRegRead b s | 0x11 => esRegWrite b s | 0x12 => esImageRead b s | 0x20 => esExec i b s
  | 0x30 => esForceSet b s | 0x31 => esForceClear b s | 0x32 => esForceList s
  | 0x33 => esSimSet b s | 0x34 => esSimClear b s | 0x35 => esSimList s
  | 0x40 => esDiarySnap s | 0x41 => esDiaryRead b s | 0x50 => esClockSet b s
  | 0x60 => esSettingRead b s | 0x61 => esSettingWrite b s
  | 0x70 => esSafetySeal i b s | 0x71 => esSafetyPassword i b s | 0x72 => esSafetyLogClear i b s
  | 0x73 => esSafetyRestart i s | 0x74 => esSafetyLogRead b s | 0x75 => esSafetyErase i s
  | _ => esErr stUnknownOp s

/-- A request judged in the model's order of checks (log 24): its form, its OP, HELLO, the unit, write rights, recovery boot. -/
def esRun (op : Nat) (r : EsReq) (s : State) : EsAns :=
  let x := sesOf s r.ses
  if r.flags ≠ 0 ∨ !bodyOk op r.body then esErr stBadMessage s
  else if !opListed op then esErr stUnknownOp s
  else if op ≠ 0x01 ∧ !x.hello then esErr stState s
  else if 0x70 ≤ op ∧ !s.variant.safety then esErr stAbsent s
  else if opWrites op r.body && !x.write then esErr stRefused s
  else if s.sup.phase = .recovery ∧ opNoRecovery op then esErr stState s
  else esOperation r.ses op r.body s

/-- The request at the head of the session's queue has begun and waits for its end. -/
def esWaiting (s : State) (i : SesId) : Bool :=
  (match s.es.busy with | some (_, some j) => j == i | _ => false) || (match s.es.safeRestart with | some j => j == i | none => false)

/-- The response to the head of the queue. -/
def esRespond (i : SesId) (status : Nat) (body : List Byte) (s : State) : State :=
  match (sesOf s i).queue with
  | [] => s
  | (op, r) :: rest =>
    esSend i (esMessage op.toNat 1 r.reqId status body) (modSes i (fun x => { x with queue := rest }) s)

/-- The session ends: its rights are free, a command that it began goes on without an answer. -/
def closeSession (i : SesId) (s : State) : State :=
  let busy := s.es.busy.map (fun x => if x.2 = some i then (x.1, none) else x)
  let again := if s.es.safeRestart = some i then none else s.es.safeRestart
  setSes i {} { s with es := { s.es with busy := busy, safeRestart := again } }

/-- The module reads on in the session's stream while fewer than 8 requests are unanswered; a LENGTH that cannot be read past
closes the session (R235). -/
def esRead (i : SesId) : Nat → State → State
  | 0, s => s
  | n + 1, s =>
    match (sesOf s i).stream with
    | [] => s
    | m :: rest =>
      if 8 ≤ (sesOf s i).queue.length then s
      else match m with
        | none => closeSession i s
        | some x => esRead i n (modSes i (fun y => { y with queue := y.queue ++ [x], stream := rest }) s)
def esReadAll (i : SesId) (s : State) : State := esRead i (sesOf s i).stream.length s

/-- Serve the requests of a session in their order, up to one that waits. -/
def esServe (i : SesId) : Nat → State → State
  | 0, s => s
  | n + 1, s =>
    match (sesOf s i).queue with
    | [] => s
    | (op, r) :: _ =>
      if esWaiting s i then s
      else
        let a := esRun op.toNat r s
        match a.1 with
        | none => a.2
        | some x => esServe i n (esReadAll i (esRespond i x.1 x.2 a.2))
def esServeAll (i : SesId) (s : State) : State :=
  let s := esReadAll i s
  esServe i ((sesOf s i).queue.length + (sesOf s i).stream.length) s

/-- A request arrives; the service answers while the host port does. -/
def esRequest (op : Half) (r : EsReq) (s : State) : Out :=
  .next (
    if !s.up || !(sesOf s r.ses).opened then s
    else esServeAll r.ses (modSes r.ses (fun x => { x with lastNs := s.now, stream := x.stream ++ [some (op, r)] }) s))

/-- The EXEC command in progress is judged again. -/
def esSettle (s : State) : State :=
  match s.es.busy with
  | none => s
  | some (b, o) =>
    let a := cmdDone b s
    match a.1 with
    | none => a.2
    | some r =>
      let s := { a.2 with es := { a.2.es with busy := none } }
      match o with
      | some i => esServeAll i (esRespond i stOk (cmdBody r) s)
      | none => s

def execHello (r : EsReq) (s : State) : Out := esRequest 0x0001 r s
def execRelease (r : EsReq) (s : State) : Out := esRequest 0x0002 r s
def execRegRead (r : EsReq) (s : State) : Out := esRequest 0x0010 r s
def execRegWrite (r : EsReq) (s : State) : Out := esRequest 0x0011 r s
def execImageRead (r : EsReq) (s : State) : Out := esRequest 0x0012 r s
def execExecCmd (r : EsReq) (s : State) : Out := esRequest 0x0020 r s
def execForceSet (r : EsReq) (s : State) : Out := esRequest 0x0030 r s
def execForceClear (r : EsReq) (s : State) : Out := esRequest 0x0031 r s
def execForceList (r : EsReq) (s : State) : Out := esRequest 0x0032 r s
def execSimSet (r : EsReq) (s : State) : Out := esRequest 0x0033 r s
def execSimClear (r : EsReq) (s : State) : Out := esRequest 0x0034 r s
def execSimList (r : EsReq) (s : State) : Out := esRequest 0x0035 r s
def execDiarySnap (r : EsReq) (s : State) : Out := esRequest 0x0040 r s
def execDiaryRead (r : EsReq) (s : State) : Out := esRequest 0x0041 r s
def execClockSet (r : EsReq) (s : State) : Out := esRequest 0x0050 r s
def execSettingRead (r : EsReq) (s : State) : Out := esRequest 0x0060 r s
def execSettingWrite (r : EsReq) (s : State) : Out := esRequest 0x0061 r s
def execSafetySeal (r : EsReq) (s : State) : Out := esRequest 0x0070 r s
def execSafetyPassword (r : EsReq) (s : State) : Out := esRequest 0x0071 r s
def execSafetyLogClear (r : EsReq) (s : State) : Out := esRequest 0x0072 r s
def execSafetyRestart (r : EsReq) (s : State) : Out := esRequest 0x0073 r s
def execSafetyLogRead (r : EsReq) (s : State) : Out := esRequest 0x0074 r s
def execSafetyErase (r : EsReq) (s : State) : Out := esRequest 0x0075 r s
/-- UNKNOWN_OP. -/
def execUnknownOp (op : Half) (r : EsReq) (s : State) : Out := esRequest op r s

/-! ### Sessions open and close (R234–R236, R240) -/

/-- SESSION_OPEN: a certificate that chains to a trust anchor opens the first free session; a third connection is refused. -/
def execSessionOpen (cert : List Byte) (s : State) : Out :=
  whenUp (fun s =>
    if !(anchors s).any (fun a => Config.certAccepted a.2 cert) then s
    else if !s.es.s0.opened then setSes 0 { opened := true, cert := cert } s
    else if !s.es.s1.opened then setSes 1 { opened := true, cert := cert } s
    else s) s
/-- SESSION_CLOSE. -/
def execSessionClose (i : SesId) (s : State) : Out := whenUp (closeSession i) s
/-- SESSION_IDLE (R236). -/
def execSessionIdle (i : SesId) (s : State) : Out :=
  whenUp (fun s => if (sesOf s i).lastNs + 60000000000 ≤ s.now then modSes i (fun x => { x with write := false }) s else s) s
/-- BAD_LENGTH_MESSAGE (R235): a LENGTH outside 16–65,600 closes the session when the module reads it. -/
def execBadLengthMessage (i : SesId) (length : Word) (s : State) : Out :=
  whenUp (fun s => if 16 ≤ length.toNat ∧ length.toNat ≤ 65600 then s
    else if !(sesOf s i).opened then s
    else esServeAll i (modSes i (fun x => { x with stream := x.stream ++ [none] }) s)) s
/-- The session's last NOTIFY is 10 ms old (R240). -/
def notifyDue (x : SesSt) (now : Nat) : Bool := match x.noteNs with | some t => decide (t + 10000000 ≤ now) | none => true
/-- NOTIFY (R240). -/
def execNotify (i : SesId) (s : State) : Out :=
  whenUp (fun s =>
    let x := sesOf s i
    if x.notify && x.bits != 0 && notifyDue x s.clockNs then
      modSes i (fun x => { x with bits := 0, noteNs := some s.clockNs }) (esSend i (esMessage 0x00F0 2 0 0 (nBytes x.bits.toNat)) s)
    else s) s

/-! ### The safety self-test (R247, R248) -/

/-- A SAFETY_RESTART whose self-test passes: memories are loaded anew, the subsystem runs, its stopped tasks start (R114, R247).
A task held for the token waits on. -/
def safeRestarted (s : State) : State :=
  let s := safeEnter (safeTested (setupEngine 24 s))
  (safetyTasks s).foldl (fun s t =>
    if taskDown s t ∧ (s.task t).cause ≠ 0 ∧ s.sup.phase = .run ∧ !loadRuns s then startTask t false s else s) s
/-- SAFETY_SELFTEST of a SAFETY_RESTART (that of Dawn is part of DAWN). -/
def execSafetySelftest (pass : Bool) (s : State) : Out :=
  whenUp (fun s =>
    if s.safe.st ≠ .selftest then s
    else
      let s := if pass then safeRestarted s else safeSelftestFail s
      match s.es.safeRestart with
      | none => s
      | some i =>
        let s := { s with es := { s.es with safeRestart := none } }
        esServeAll i (esRespond i stOk (wordBytes (safetyReg s 0)) s)) s

end Sys2Proof.Machine
end

