-- ==== Sys2Proof/Machine/FbAlu.lean ====
section
/-! DEFINITION. The ALU group and the immediate forms (Tables 4-7, 4-8, R93, R94). -/

namespace Sys2Proof.Machine

/-- Clamp to a signed or unsigned type of `n` bits (R93). -/
def clampS (n : Nat) (v : Int) : Int :=
  if v < -((2 : Int) ^ (n - 1)) then -((2 : Int) ^ (n - 1)) else if v > (2 : Int) ^ (n - 1) - 1 then (2 : Int) ^ (n - 1) - 1 else v
def clampU (n : Nat) (v : Int) : Int := if v < 0 then 0 else if v > (2 : Int) ^ n - 1 then (2 : Int) ^ n - 1 else v

/-- Signed divide of the low `n` bits, truncating: 0 and the flag for a divisor 0; the most negative value and the flag for
its division by −1 (R94). -/
def divS (n : Nat) (a b : Dword) : Dword × Bool :=
  let x := (a.setWidth n).toInt; let y := (b.setWidth n).toInt
  if y = 0 then (0, true)
  else if x = -((2 : Int) ^ (n - 1)) ∧ y = -1 then (BitVec.ofInt 64 x, true)
  else (BitVec.ofInt 64 (Int.tdiv x y), false)
def divU (n : Nat) (a b : Dword) : Dword × Bool :=
  let x := (a.setWidth n).toNat; let y := (b.setWidth n).toNat
  if y = 0 then (0, true) else (BitVec.ofNat 64 (x / y), false)
/-- Signed remainder with the sign of Wa: 0 and the flag for a divisor 0 (R94). -/
def remS (n : Nat) (a b : Dword) : Dword × Bool :=
  let x := (a.setWidth n).toInt; let y := (b.setWidth n).toInt
  if y = 0 then (0, true) else (BitVec.ofInt 64 (Int.tmod x y), false)
def remU (n : Nat) (a b : Dword) : Dword × Bool :=
  let x := (a.setWidth n).toNat; let y := (b.setWidth n).toNat
  if y = 0 then (0, true) else (BitVec.ofNat 64 (x % y), false)

/-- ADD (R93). -/
def execAdd (e : EngId) (rd ra rb : Reg) (s : State) : Out := fbAlu2 e rd ra rb (fun a b => a + b) s
/-- SUB (R93). -/
def execSub (e : EngId) (rd ra rb : Reg) (s : State) : Out := fbAlu2 e rd ra rb (fun a b => a - b) s
/-- ADDW (R93). -/
def execAddw (e : EngId) (rd ra rb : Reg) (s : State) : Out := fbAlu2 e rd ra rb (fun a b => sext64 (low32 a + low32 b)) s
/-- SUBW (R93). -/
def execSubw (e : EngId) (rd ra rb : Reg) (s : State) : Out := fbAlu2 e rd ra rb (fun a b => sext64 (low32 a - low32 b)) s
/-- ADDS (R93). -/
def execAdds (e : EngId) (rd ra rb : Reg) (s : State) : Out := fbAlu2 e rd ra rb (fun a b => BitVec.ofInt 64 (clampS 64 (a.toInt + b.toInt))) s
/-- SUBS (R93). -/
def execSubs (e : EngId) (rd ra rb : Reg) (s : State) : Out := fbAlu2 e rd ra rb (fun a b => BitVec.ofInt 64 (clampS 64 (a.toInt - b.toInt))) s
/-- ADDSW (R93). -/
def execAddsw (e : EngId) (rd ra rb : Reg) (s : State) : Out := fbAlu2 e rd ra rb (fun a b => BitVec.ofInt 64 (clampS 32 ((low32 a).toInt + (low32 b).toInt))) s
/-- SUBSW (R93). -/
def execSubsw (e : EngId) (rd ra rb : Reg) (s : State) : Out := fbAlu2 e rd ra rb (fun a b => BitVec.ofInt 64 (clampS 32 ((low32 a).toInt - (low32 b).toInt))) s
/-- ADDUSW (R93). -/
def execAddusw (e : EngId) (rd ra rb : Reg) (s : State) : Out := fbAlu2 e rd ra rb (fun a b => BitVec.ofInt 64 (clampU 32 ((low32 a).toNat + (low32 b).toNat : Int))) s
/-- SUBUSW (R93). -/
def execSubusw (e : EngId) (rd ra rb : Reg) (s : State) : Out := fbAlu2 e rd ra rb (fun a b => BitVec.ofInt 64 (clampU 32 (((low32 a).toNat : Int) - ((low32 b).toNat : Int)))) s
/-- MUL (R93). -/
def execMul (e : EngId) (rd ra rb : Reg) (s : State) : Out := fbAlu2 e rd ra rb (fun a b => a * b) s
/-- MULW (R93). -/
def execMulw (e : EngId) (rd ra rb : Reg) (s : State) : Out := fbAlu2 e rd ra rb (fun a b => sext64 (low32 a * low32 b)) s
/-- MULSW (R93). -/
def execMulsw (e : EngId) (rd ra rb : Reg) (s : State) : Out := fbAlu2 e rd ra rb (fun a b => BitVec.ofInt 64 (clampS 32 ((low32 a).toInt * (low32 b).toInt))) s
/-- MULUSW (R93). -/
def execMulusw (e : EngId) (rd ra rb : Reg) (s : State) : Out := fbAlu2 e rd ra rb (fun a b => BitVec.ofInt 64 (clampU 32 ((low32 a).toNat * (low32 b).toNat : Int))) s
/-- AND (Table 4-7). -/
def execAnd (e : EngId) (rd ra rb : Reg) (s : State) : Out := fbAlu2 e rd ra rb (fun a b => a &&& b) s
/-- OR (Table 4-7). -/
def execOr (e : EngId) (rd ra rb : Reg) (s : State) : Out := fbAlu2 e rd ra rb (fun a b => a ||| b) s
/-- XOR (Table 4-7). -/
def execXor (e : EngId) (rd ra rb : Reg) (s : State) : Out := fbAlu2 e rd ra rb (fun a b => a ^^^ b) s
/-- ANDN (Table 4-7). -/
def execAndn (e : EngId) (rd ra rb : Reg) (s : State) : Out := fbAlu2 e rd ra rb (fun a b => a &&& ~~~b) s
/-- SLL (Table 4-7). -/
def execSll (e : EngId) (rd ra rb : Reg) (s : State) : Out := fbAlu2 e rd ra rb (fun a b => a <<< (b.toNat % 64)) s
/-- SRL (Table 4-7). -/
def execSrl (e : EngId) (rd ra rb : Reg) (s : State) : Out := fbAlu2 e rd ra rb (fun a b => a >>> (b.toNat % 64)) s
/-- SRA (Table 4-7). -/
def execSra (e : EngId) (rd ra rb : Reg) (s : State) : Out := fbAlu2 e rd ra rb (fun a b => a.sshiftRight (b.toNat % 64)) s
/-- SLLW (Table 4-7). -/
def execSllw (e : EngId) (rd ra rb : Reg) (s : State) : Out := fbAlu2 e rd ra rb (fun a b => sext64 (low32 a <<< (b.toNat % 32))) s
/-- SRLW (Table 4-7). -/
def execSrlw (e : EngId) (rd ra rb : Reg) (s : State) : Out := fbAlu2 e rd ra rb (fun a b => sext64 (low32 a >>> (b.toNat % 32))) s
/-- SRAW (Table 4-7). -/
def execSraw (e : EngId) (rd ra rb : Reg) (s : State) : Out := fbAlu2 e rd ra rb (fun a b => sext64 ((low32 a).sshiftRight (b.toNat % 32))) s
/-- ROL (Table 4-7). -/
def execRol (e : EngId) (rd ra rb : Reg) (s : State) : Out := fbAlu2 e rd ra rb (fun a b => a.rotateLeft (b.toNat % 64)) s
/-- ROR (Table 4-7). -/
def execRor (e : EngId) (rd ra rb : Reg) (s : State) : Out := fbAlu2 e rd ra rb (fun a b => a.rotateRight (b.toNat % 64)) s
/-- ROLW (Table 4-7). -/
def execRolw (e : EngId) (rd ra rb : Reg) (s : State) : Out := fbAlu2 e rd ra rb (fun a b => zext64 ((low32 a).rotateLeft (b.toNat % 32))) s
/-- RORW (Table 4-7). -/
def execRorw (e : EngId) (rd ra rb : Reg) (s : State) : Out := fbAlu2 e rd ra rb (fun a b => zext64 ((low32 a).rotateRight (b.toNat % 32))) s
/-- SLT (Table 4-7). -/
def execSlt (e : EngId) (rd ra rb : Reg) (s : State) : Out := fbAlu2 e rd ra rb (fun a b => boolD (a.slt b)) s
/-- SLTU (Table 4-7). -/
def execSltu (e : EngId) (rd ra rb : Reg) (s : State) : Out := fbAlu2 e rd ra rb (fun a b => boolD (a.ult b)) s
/-- MIN (Table 4-7). -/
def execMin (e : EngId) (rd ra rb : Reg) (s : State) : Out := fbAlu2 e rd ra rb (fun a b => if a.slt b then a else b) s
/-- MAX (Table 4-7). -/
def execMax (e : EngId) (rd ra rb : Reg) (s : State) : Out := fbAlu2 e rd ra rb (fun a b => if a.slt b then b else a) s
/-- MINU (Table 4-7). -/
def execMinu (e : EngId) (rd ra rb : Reg) (s : State) : Out := fbAlu2 e rd ra rb (fun a b => if a.ult b then a else b) s
/-- MAXU (Table 4-7). -/
def execMaxu (e : EngId) (rd ra rb : Reg) (s : State) : Out := fbAlu2 e rd ra rb (fun a b => if a.ult b then b else a) s
/-- DIV (R94). -/
def execDiv (e : EngId) (rd ra rb : Reg) (s : State) : Out := fbAluFlag e rd ra rb (divS 64) s
/-- DIVU (R94). -/
def execDivu (e : EngId) (rd ra rb : Reg) (s : State) : Out := fbAluFlag e rd ra rb (divU 64) s
/-- DIVW (R94). -/
def execDivw (e : EngId) (rd ra rb : Reg) (s : State) : Out := fbAluFlag e rd ra rb (divS 32) s
/-- DIVUW (R94). -/
def execDivuw (e : EngId) (rd ra rb : Reg) (s : State) : Out := fbAluFlag e rd ra rb (divU 32) s
/-- REM (R94). -/
def execRem (e : EngId) (rd ra rb : Reg) (s : State) : Out := fbAluFlag e rd ra rb (remS 64) s
/-- REMU (R94). -/
def execRemu (e : EngId) (rd ra rb : Reg) (s : State) : Out := fbAluFlag e rd ra rb (remU 64) s
/-- REMW (R94). -/
def execRemw (e : EngId) (rd ra rb : Reg) (s : State) : Out := fbAluFlag e rd ra rb (remS 32) s
/-- REMUW (R94). -/
def execRemuw (e : EngId) (rd ra rb : Reg) (s : State) : Out := fbAluFlag e rd ra rb (remU 32) s
/-- SEXTB (Table 4-7). -/
def execSextb (e : EngId) (rd ra : Reg) (s : State) : Out := fbAlu1 e rd ra (fun a => sext64 (a.setWidth 8)) s
/-- SEXTH (Table 4-7). -/
def execSexth (e : EngId) (rd ra : Reg) (s : State) : Out := fbAlu1 e rd ra (fun a => sext64 (a.setWidth 16)) s
/-- SEXTW (Table 4-7). -/
def execSextw (e : EngId) (rd ra : Reg) (s : State) : Out := fbAlu1 e rd ra (fun a => sext64 (low32 a)) s
/-- ZEXTB (Table 4-7). -/
def execZextb (e : EngId) (rd ra : Reg) (s : State) : Out := fbAlu1 e rd ra (fun a => zext64 (a.setWidth 8)) s
/-- ZEXTH (Table 4-7). -/
def execZexth (e : EngId) (rd ra : Reg) (s : State) : Out := fbAlu1 e rd ra (fun a => zext64 (a.setWidth 16)) s
/-- ZEXTW (Table 4-7). -/
def execZextw (e : EngId) (rd ra : Reg) (s : State) : Out := fbAlu1 e rd ra (fun a => zext64 (low32 a)) s
/-- SATSB (Table 4-7). -/
def execSatsb (e : EngId) (rd ra : Reg) (s : State) : Out := fbAlu1 e rd ra (fun a => BitVec.ofInt 64 (clampS 8 a.toInt)) s
/-- SATSH (Table 4-7). -/
def execSatsh (e : EngId) (rd ra : Reg) (s : State) : Out := fbAlu1 e rd ra (fun a => BitVec.ofInt 64 (clampS 16 a.toInt)) s
/-- SATSW (Table 4-7). -/
def execSatsw (e : EngId) (rd ra : Reg) (s : State) : Out := fbAlu1 e rd ra (fun a => BitVec.ofInt 64 (clampS 32 a.toInt)) s
/-- SATUB (Table 4-7). -/
def execSatub (e : EngId) (rd ra : Reg) (s : State) : Out := fbAlu1 e rd ra (fun a => BitVec.ofInt 64 (clampU 8 a.toInt)) s
/-- SATUH (Table 4-7). -/
def execSatuh (e : EngId) (rd ra : Reg) (s : State) : Out := fbAlu1 e rd ra (fun a => BitVec.ofInt 64 (clampU 16 a.toInt)) s
/-- SATUW (Table 4-7). -/
def execSatuw (e : EngId) (rd ra : Reg) (s : State) : Out := fbAlu1 e rd ra (fun a => BitVec.ofInt 64 (clampU 32 a.toInt)) s
/-- ADDI (Table 4-8). -/
def execAddi (e : EngId) (rd ra : Reg) (imm : Half) (s : State) : Out := fbAlu1 e rd ra (fun a => a + sext64 imm) s
/-- ANDI (Table 4-8). -/
def execAndi (e : EngId) (rd ra : Reg) (imm : Half) (s : State) : Out := fbAlu1 e rd ra (fun a => a &&& zext64 imm) s
/-- ORI (Table 4-8). -/
def execOri (e : EngId) (rd ra : Reg) (imm : Half) (s : State) : Out := fbAlu1 e rd ra (fun a => a ||| zext64 imm) s
/-- XORI (Table 4-8). -/
def execXori (e : EngId) (rd ra : Reg) (imm : Half) (s : State) : Out := fbAlu1 e rd ra (fun a => a ^^^ zext64 imm) s
/-- SLTI (Table 4-8). -/
def execSlti (e : EngId) (rd ra : Reg) (imm : Half) (s : State) : Out := fbAlu1 e rd ra (fun a => boolD (a.slt (sext64 imm))) s
/-- SLTIU (Table 4-8). -/
def execSltiu (e : EngId) (rd ra : Reg) (imm : Half) (s : State) : Out := fbAlu1 e rd ra (fun a => boolD (a.ult (sext64 imm))) s
/-- LUI (Table 4-8). -/
def execLui (e : EngId) (rd : Reg) (imm : Half) (s : State) : Out := fbWrite e rd (fun _ => sext64 (imm.setWidth 32 <<< 16)) s
/-- SLLI (Table 4-8). -/
def execSlli (e : EngId) (rd ra : Reg) (sh : BitVec 6) (s : State) : Out := fbAlu1 e rd ra (fun a => a <<< sh.toNat) s
/-- SRLI (Table 4-8). -/
def execSrli (e : EngId) (rd ra : Reg) (sh : BitVec 6) (s : State) : Out := fbAlu1 e rd ra (fun a => a >>> sh.toNat) s
/-- SRAI (Table 4-8). -/
def execSrai (e : EngId) (rd ra : Reg) (sh : BitVec 6) (s : State) : Out := fbAlu1 e rd ra (fun a => a.sshiftRight sh.toNat) s

end Sys2Proof.Machine
end

