-- ==== Sys2Proof/Machine/FbControl.lean ====
section
/-! DEFINITION. Branches, jumps, ENTI, END, TRAP and ILLEGAL (Table 4-8, R81, R87, R92, R108, R109). -/

namespace Sys2Proof.Machine

/-- A jump to `target`: ALIGN before BUS (R81); otherwise `before` is applied and PC is the target. The fault has no data address;
ENGINE_STOP carries the target there (DESIGN CHOICE, log 42). -/
def fbJump (e : EngId) (t : TaskId) (target : Dword) (before : State → State) (s : State) : State :=
  if target.toNat % 4 ≠ 0 then fbStop e t fcAlign (instrWord s e) target.toNat s
  else if target.toNat ≥ (if e.val = safeEng then 0x20000 else 0x40000) then fbStop e t fcBus (instrWord s e) target.toNat s
  else setPc e target (before s)

/-- Offsets count instruction words from the branch (Table 4-8). -/
def fbBranch (e : EngId) (ra rb : Reg) (off : Half) (c : Dword → Dword → Bool) (s : State) : Out :=
  fbStep e (fun t s =>
    if c (wGet s e ra) (wGet s e rb) then fbJump e t (pcOf s e + (sext64 off <<< 2)) id s else pcNext e s) s

/-- BEQ (Table 4-8). -/
def execBeq (e : EngId) (ra rb : Reg) (off : Half) (s : State) : Out := fbBranch e ra rb off (fun a b => a == b) s
/-- BNE (Table 4-8). -/
def execBne (e : EngId) (ra rb : Reg) (off : Half) (s : State) : Out := fbBranch e ra rb off (fun a b => a != b) s
/-- BLT (Table 4-8). -/
def execBlt (e : EngId) (ra rb : Reg) (off : Half) (s : State) : Out := fbBranch e ra rb off (fun a b => a.slt b) s
/-- BGE (Table 4-8). -/
def execBge (e : EngId) (ra rb : Reg) (off : Half) (s : State) : Out := fbBranch e ra rb off (fun a b => !a.slt b) s
/-- BLTU (Table 4-8). -/
def execBltu (e : EngId) (ra rb : Reg) (off : Half) (s : State) : Out := fbBranch e ra rb off (fun a b => a.ult b) s
/-- BGEU (Table 4-8). -/
def execBgeu (e : EngId) (ra rb : Reg) (off : Half) (s : State) : Out := fbBranch e ra rb off (fun a b => !a.ult b) s

/-- J (Table 4-8). -/
def execJ (e : EngId) (off : BitVec 26) (s : State) : Out :=
  fbStep e (fun t s => fbJump e t (pcOf s e + (sext64 off <<< 2)) id s) s
/-- JAL (Table 4-8): W31 := PC + 4, then as J. -/
def execJal (e : EngId) (off : BitVec 26) (s : State) : Out :=
  fbStep e (fun t s => fbJump e t (pcOf s e + (sext64 off <<< 2)) (fun s => wSet e 31 (pcOf s e + 4) s) s) s
/-- JALR (Table 4-8): Wd := PC + 4; PC := Wa + sext(IMM16), Wa read before Wd is written. -/
def execJalr (e : EngId) (rd ra : Reg) (imm : Half) (s : State) : Out :=
  fbStep e (fun t s => fbJump e t (wGet s e ra + sext64 imm) (fun s => wSet e rd (pcOf s e + 4) s) s) s

/-- ENTI (R108): W30 := FRAME_ADDR and Wd := FRAME_SIZE of descriptor n, or an INSTANCE fault. -/
def execEnti (e : EngId) (rd ra : Reg) (imm : Half) (s : State) : Out :=
  fbMain e (fun t s =>
    let n := (wGet s e ra + zext64 imm).toNat
    let d : DescCfg := s.run.descs.getD n {}
    if n ≥ 65536 ∨ !d.flags.getLsbD 1 ∨ d.owner.toNat ≠ t.val ∨ (d.home ≠ 0xFF ∧ d.home.toNat ≠ e.val) then
      fbStop e t fcInstance (instrWord s e) n s
    else pcNext e (wSet e 30 (zext64 d.addr) (wSet e rd (zext64 d.size) s))) s

/-- END (R87): the marker enters the engine's queue behind every store of the Lesson, and the engine waits for the next. -/
def execEnd (e : EngId) (s : State) : Out :=
  fbStep e (fun t s =>
    match (s.engine e).run with
    | .lesson _ l =>
      let s := pushEngine e (.marker t l) s
      let s := s.modEngine e (fun x => { x with run := .ended t l })
      let us := satOf 32 ((s.now - s.safe.runStart) / 1000)
      let s := if e.val = safeEng ∧ s.safe.runMax.toNat < us.toNat then { s with safe := { s.safe with runMax := us } } else s
      s.modTask t (fun x => { x with lessons := tset .waiting x.lessons l .ended })
    | _ => s) s

/-- TRAP (Table 4-8): stopping fault with code IMM16. -/
def execTrap (e : EngId) (imm : Half) (s : State) : Out :=
  fbStep e (fun t s => fbStop e t fcTrap (instrWord s e) imm.toNat s) s

/-- FUNC of the ALU group (Table 4-7): with two sources, and with RB = 0. -/
def aluFuncs : List Nat :=
  List.range' 0x000 10 ++ List.range' 0x010 4 ++ List.range' 0x018 8 ++ List.range' 0x020 4 ++ List.range' 0x028 10
    ++ List.range' 0x038 6
def aluUnary : List Nat := List.range' 0x040 6 ++ List.range' 0x048 6
/-- FUNC[9:0] of the FP group (Table 4-9): with two sources, and with RB = 0. -/
def fpFuncs : List Nat := [0x000, 0x001, 0x002, 0x003, 0x005, 0x006, 0x010, 0x011, 0x012]
def fpUnary : List Nat := [0x004, 0x007, 0x008, 0x013]
/-- OPs whose every field is used: ADDI to XORI, SLTI, SLTIU, loads, stores, branches, J, JAL, JALR, ENTI, and the image,
Blackboard and timer instructions but STBBM (Tables 4-6, 4-8, 4-11). -/
def fullOps : List Nat :=
  List.range' 0x04 4 ++ [0x09, 0x0A] ++ List.range' 0x10 7 ++ List.range' 0x18 4 ++ List.range' 0x20 10 ++ List.range' 0x30 7
    ++ List.range' 0x38 5
/-- The words that R92 allows: OP and FUNC listed, fields that the instruction does not use 0. -/
def legalWord (w : Word) : Bool :=
  let fld (lo n : Nat) : Nat := w.toNat / 2 ^ lo % 2 ^ n
  let rd := fld 21 5; let ra := fld 16 5; let rb := fld 11 5; let fn := fld 0 11; let imm := fld 0 16
  match fld 26 6 with
  | 0x00 => aluFuncs.contains fn || (aluUnary.contains fn && rb == 0)
  | 0x01 => fpFuncs.contains (fn % 1024) || (fpUnary.contains (fn % 1024) && rb == 0)
  | 0x02 =>
    let src := fn / 256; let dst := fn / 32 % 8
    rb == 0 && fn % 16 == 0 && decide (src < 6) && decide (dst < 6) && (decide (4 ≤ src) || decide (4 ≤ dst)) && src != dst
  | 0x03 => ra == 0 && rb == 0 && decide (fn < 6)
  | 0x08 => ra == 0
  | 0x0B => decide (imm < 64)
  | 0x0C => decide (imm < 64)
  | 0x0D => decide (imm < 64)
  | 0x1C => decide (fn < 4)
  | 0x2A => rd == 0 && ra == 0 && imm == 0
  | 0x2B => rd == 0 && ra == 0
  | 0x37 => fn == 0
  | op => fullOps.contains op
/-- SA and SB refuse AMO, ENTI, LDQT, LDBB, STBB, STBBM and the timer instructions too (Table 10-1). -/
def safeIllegal (w : Word) : Bool := [0x1C, 0x29, 0x32, 0x35, 0x36, 0x37, 0x38, 0x39, 0x3A, 0x3B, 0x3C].contains (w.toNat / 2 ^ 26)

/-- A word that R92 calls illegal: stopping fault ILLEGAL. A legal word raises none. -/
def execIllegal (e : EngId) (word : Word) (s : State) : Out :=
  fbStep e (fun t s =>
    if legalWord word && !(e.val == safeEng && safeIllegal word) then s else fbStop e t fcIllegal word 0 s) s

end Sys2Proof.Machine
end

