-- ==== Sys2Proof/Machine/FbImage.lean ====
section
/-! DEFINITION. Image, Blackboard, timer and SYS instructions (Tables 4-10, 4-11, R97–R106). -/

namespace Sys2Proof.Machine

/-- The index n = Wa + zext(IMM16) of Table 4-11. -/
def fbIndex (s : State) (e : EngId) (ra : Reg) (imm : Half) : Nat := (wGet s e ra + zext64 imm).toNat

/-- The Roll Call set of a task that runs FB code: every IW word with an input routing entry (R118). -/
def inRollCall (s : State) (n : Nat) : Bool := decide (n < 32768) && routedIn s.run n

/-- Wd := `v` of the word read; a word outside the set reads data 0 with tag QUAL BAD and sets IMAGE (R97, R98). -/
def fbWordRead (e : EngId) (rd : Reg) (t : TaskId) (ok : Bool) (w : ImgWord) (withTag : Bool) (s : State) : State :=
  let w : ImgWord := if ok then w else ⟨0, badTag⟩
  let v : Dword := if withTag then (zext64 w.tag <<< 32) ||| zext64 w.data else zext64 w.data
  pcNext e (wSet e rd v (fbFlagIf (!ok) e t tfImage s))

/-- LDI (R97). -/
def execLdi (e : EngId) (rd ra : Reg) (imm : Half) (s : State) : Out :=
  fbStep e (fun t s => let n := fbIndex s e ra imm; fbWordRead e rd t (inRollCall s n) (tget {} (s.task t).snap n) false s) s
/-- LDIT (R97). -/
def execLdit (e : EngId) (rd ra : Reg) (imm : Half) (s : State) : Out :=
  fbStep e (fun t s => let n := fbIndex s e ra imm; fbWordRead e rd t (inRollCall s n) (tget {} (s.task t).snap n) true s) s
/-- The Lesson index that a READ record names: 0xFFFF for a safety run (Table 11-14). -/
def fbReadLesson (s : State) (e : EngId) : Nat :=
  if e.val = safeEng then 0xFFFF else match (s.engine e).run with | .lesson _ l => l | _ => 0
/-- A read that the standby takes from the stream; while its record has not arrived the engine waits (R285). -/
def fbStreamed (e : EngId) (t : TaskId) (kind : Nat) (own : Dword) (k : Dword → State → State) (s : State) : State :=
  match takeReads t kind (fbReadLesson s e) [own] s with
  | some (v :: _, s) => k v s
  | _ => s

/-- LDQT (R98): the live output image; ILLEGAL on SA and SB. -/
def execLdqt (e : EngId) (rd ra : Reg) (imm : Half) (s : State) : Out :=
  fbMain e (fun t s =>
    let n := fbIndex s e ra imm
    let ok := decide (n < 32768) && (routeOf s.run true n).isSome
    let w : ImgWord := if ok then s.qwGet n else ⟨0, badTag⟩
    fbStreamed e t 6 ((zext64 w.tag <<< 32) ||| zext64 w.data) (fun v s =>
      pcNext e (wSet e rd v (fbFlagIf (!ok) e t tfImage s))) s) s

/-- The tag part of an engine's store: ORIGIN 3, or 4 on SA and SB, with QUAL, HOLD and GLIDE (R99). -/
def storeTag (e : EngId) (glide hold : Bool) (q : BitVec 2) : Word :=
  mkTag (if e.val = safeEng then 4 else 3) 0 0 glide hold false false q

/-- Place a word in the engine queue; an index at or above 32,768 is discarded and sets IMAGE (R100). -/
def fbWordStore (e : EngId) (t : TaskId) (n : Nat) (d tag : Word) (s : State) : State :=
  if n < 32768 then pcNext e (pushEngine e (.qw t n d tag) s) else pcNext e (fbFlag e t tfImage s)

/-- STQ (R99). -/
def execStq (e : EngId) (rd ra : Reg) (imm : Half) (s : State) : Out :=
  fbStep e (fun t s => fbWordStore e t (fbIndex s e ra imm) (low32 (wGet s e rd)) (storeTag e false false qGood) s) s
/-- STQT (R99): QUAL, HOLD and GLIDE from Wd[33:32], Wd[36] and Wd[37]. -/
def execStqt (e : EngId) (rd ra : Reg) (imm : Half) (s : State) : Out :=
  fbStep e (fun t s =>
    let v := wGet s e rd
    fbWordStore e t (fbIndex s e ra imm) (low32 v) (storeTag e (v.getLsbD 37) (v.getLsbD 36) (v.extractLsb' 32 2)) s) s

/-- LDBB (R101): every earlier Blackboard store of the same engine is applied first. -/
def execLdbb (e : EngId) (rd ra : Reg) (imm : Half) (s : State) : Out :=
  fbMain e (fun t s =>
    let n := fbIndex s e ra imm
    let s := drainEngine e s
    if n < (s.tcfg t).bbWords.toNat then pcNext e (wSet e rd (zext64 (tget (α := Word) 0 (s.task t).bb n)) s)
    else pcNext e (wSet e rd 0 (fbFlag e t tfImage s))) s

def fbBbStore (e : EngId) (t : TaskId) (n : Nat) (d mask : Word) (s : State) : State :=
  if n < (s.tcfg t).bbWords.toNat then pcNext e (pushEngine e (.bb t n d mask) s) else pcNext e (fbFlag e t tfImage s)

/-- STBB (R101, R102). -/
def execStbb (e : EngId) (rd ra : Reg) (imm : Half) (s : State) : Out :=
  fbMain e (fun t s => fbBbStore e t (fbIndex s e ra imm) (low32 (wGet s e rd)) 0xFFFFFFFF s) s
/-- STBBM (R102): n = Wa; only the bits where Wb is 1. -/
def execStbbm (e : EngId) (rd ra rb : Reg) (s : State) : Out :=
  fbMain e (fun t s => fbBbStore e t (wGet s e ra).toNat (low32 (wGet s e rd)) (low32 (wGet s e rb)) s) s

/-! ### Timers (R103, R104) -/

/-- The timer is the running task's own. -/
def timerOwn (s : State) (t : TaskId) (n : Nat) : Bool :=
  decide (n < 8192) && (s.timer n).used && decide ((s.timer n).owner.toNat = t.val)

def fbTimerRead (e : EngId) (rd ra : Reg) (imm : Half) (kind : Nat) (v : TimerSt → Dword) (s : State) : Out :=
  fbMain e (fun t s =>
    let n := fbIndex s e ra imm
    if timerOwn s t n then fbStreamed e t kind (v (s.timer n)) (fun v s => pcNext e (wSet e rd v s)) s
    else pcNext e (wSet e rd 0 (fbFlag e t tfTimer s))) s

/-- A timer write: `ok` says whether the operation is permitted on this timer. -/
def fbTimerWrite (e : EngId) (ra : Reg) (imm : Half) (ok : TimerSt → Bool) (f : TimerSt → TimerSt) (s : State) : Out :=
  fbMain e (fun t s =>
    let n := fbIndex s e ra imm
    if timerOwn s t n && ok (s.timer n) then pcNext e (s.setTimer n (f (s.timer n)))
    else pcNext e (fbFlag e t tfTimer s)) s

/-- TRD (Table 4-12). -/
def execTrd (e : EngId) (rd ra : Reg) (imm : Half) (s : State) : Out := fbTimerRead e rd ra imm 2 timerWord s
/-- TRP: the preset in µs. -/
def execTrp (e : EngId) (rd ra : Reg) (imm : Half) (s : State) : Out := fbTimerRead e rd ra imm 3 (fun x => zext64 x.preset) s
/-- TIN: IN := Wd[0], refused on a timer that the fabric drives. -/
def execTin (e : EngId) (rd ra : Reg) (imm : Half) (s : State) : Out :=
  fbTimerWrite e ra imm (fun x => !x.fabric) (fun x => timerEdge x (some ((wGet s e rd).getLsbD 0)) none) s
/-- TRST: reset := Wd[0], refused on a timer that the fabric drives. -/
def execTrst (e : EngId) (rd ra : Reg) (imm : Half) (s : State) : Out :=
  fbTimerWrite e ra imm (fun x => !x.fabric) (fun x => timerEdge x none (some ((wGet s e rd).getLsbD 0))) s
/-- TPT: preset := Wd[47:0], refused when Wd[63:48] is not 0. -/
def execTpt (e : EngId) (rd ra : Reg) (imm : Half) (s : State) : Out :=
  fbTimerWrite e ra imm (fun _ => decide ((wGet s e rd).toNat < 2 ^ 48)) (fun x => timerPreset x ((wGet s e rd).setWidth 48)) s

/-! ### SYS group (Table 4-10) -/

def fbSys (e : EngId) (rd : Reg) (v : TaskId → State → Dword) (s : State) : Out :=
  fbStep e (fun t s => pcNext e (wSet e rd (v t s) s)) s

/-- CLKRD (R106). -/
def execClkrd (e : EngId) (rd : Reg) (s : State) : Out :=
  fbStep e (fun t s => fbStreamed e t 5 (clkWord s.rtc) (fun v s => pcNext e (wSet e rd v s)) s) s
/-- TBRD: µs since Dawn; on SA and SB since the last self-test (Table 10-1). -/
def execTbrd (e : EngId) (rd : Reg) (s : State) : Out :=
  fbStep e (fun t s =>
    fbStreamed e t 4 (BitVec.ofNat 64 (if e.val = safeEng then (s.now - s.safe.tbBase) / 1000 else s.tbrd))
      (fun v s => pcNext e (wSet e rd v s)) s) s
/-- ACTRD. -/
def execActrd (e : EngId) (rd : Reg) (s : State) : Out := fbSys e rd (fun t s => zext64 (s.task t).actCnt) s
/-- IDRD: running task, engine, Lesson index. -/
def execIdrd (e : EngId) (rd : Reg) (s : State) : Out :=
  fbSys e rd (fun t s =>
    let l := match (s.engine e).run with | .lesson _ l => l | _ => 0
    BitVec.ofNat 64 (t.val + e.val * 2 ^ 8 + l % 65536 * 2 ^ 16)) s
/-- GENRD. -/
def execGenrd (e : EngId) (rd : Reg) (s : State) : Out := fbSys e rd (fun _ s => zext64 s.gen) s
/-- FLTRD: TASK_FAULT[2:0] of the running task; the read clears nothing. -/
def execFltrd (e : EngId) (rd : Reg) (s : State) : Out := fbSys e rd (fun t s => zext64 ((s.task t).fault &&& 7)) s

end Sys2Proof.Machine
end

