-- ==== Sys2Proof/Machine/FbMem.lean ====
section
/-! DEFINITION. Loads, stores and atomic operations (Table 4-8, R81–R84, R91). -/

namespace Sys2Proof.Machine

/-- Address of a load or store: Wa + sext(IMM16). -/
def memAddr (s : State) (e : EngId) (ra : Reg) (imm : Half) : Nat := (wGet s e ra + sext64 imm).toNat

/-- Wd := `n` bytes at the address, extended by `ext`. -/
def fbLoad (e : EngId) (rd ra : Reg) (imm : Half) (n : Nat) (ext : Nat → Dword) (s : State) : Out :=
  fbStep e (fun t s =>
    let a := memAddr s e ra imm
    match loadFault s e a n with
    | some c => fbStop e t c (instrWord s e) a s
    | none => pcNext e (wSet e rd (ext (ofLe (memRead s e a n))) s)) s

/-- Memory := the low `n` bytes of Wd. -/
def fbStore (e : EngId) (rd ra : Reg) (imm : Half) (n : Nat) (s : State) : Out :=
  fbStep e (fun t s =>
    let a := memAddr s e ra imm
    match storeFault e a n with
    | some c => fbStop e t c (instrWord s e) a s
    | none => pcNext e (memWrite e t a (leBytes n (wGet s e rd).toNat) s)) s

/-- LB (Table 4-8). -/
def execLb (e : EngId) (rd ra : Reg) (imm : Half) (s : State) : Out := fbLoad e rd ra imm 1 (fun v => sext64 (BitVec.ofNat 8 v)) s
/-- LBU (Table 4-8). -/
def execLbu (e : EngId) (rd ra : Reg) (imm : Half) (s : State) : Out := fbLoad e rd ra imm 1 (fun v => BitVec.ofNat 64 v) s
/-- LH (Table 4-8). -/
def execLh (e : EngId) (rd ra : Reg) (imm : Half) (s : State) : Out := fbLoad e rd ra imm 2 (fun v => sext64 (BitVec.ofNat 16 v)) s
/-- LHU (Table 4-8). -/
def execLhu (e : EngId) (rd ra : Reg) (imm : Half) (s : State) : Out := fbLoad e rd ra imm 2 (fun v => BitVec.ofNat 64 v) s
/-- LW (Table 4-8). -/
def execLw (e : EngId) (rd ra : Reg) (imm : Half) (s : State) : Out := fbLoad e rd ra imm 4 (fun v => sext64 (BitVec.ofNat 32 v)) s
/-- LWU (Table 4-8). -/
def execLwu (e : EngId) (rd ra : Reg) (imm : Half) (s : State) : Out := fbLoad e rd ra imm 4 (fun v => BitVec.ofNat 64 v) s
/-- LD (Table 4-8). -/
def execLd (e : EngId) (rd ra : Reg) (imm : Half) (s : State) : Out := fbLoad e rd ra imm 8 (fun v => BitVec.ofNat 64 v) s
/-- SB (Table 4-8). -/
def execSb (e : EngId) (rd ra : Reg) (imm : Half) (s : State) : Out := fbStore e rd ra imm 1 s
/-- SH (Table 4-8). -/
def execSh (e : EngId) (rd ra : Reg) (imm : Half) (s : State) : Out := fbStore e rd ra imm 2 s
/-- SW (Table 4-8). -/
def execSw (e : EngId) (rd ra : Reg) (imm : Half) (s : State) : Out := fbStore e rd ra imm 4 s
/-- SD (Table 4-8). -/
def execSd (e : EngId) (rd ra : Reg) (imm : Half) (s : State) : Out := fbStore e rd ra imm 8 s

/-- AMO of `n` bytes at Wa: Wd := old word, sign-extended; word := `f old Wb` (R83). Not executed by SA and SB. -/
def fbAmo (e : EngId) (rd ra rb : Reg) (n : Nat) (f : Nat → Nat → Nat) (s : State) : Out :=
  fbMain e (fun t s =>
    let a := (wGet s e ra).toNat
    match amoFault e a n with
    | some c => fbStop e t c (instrWord s e) a s
    | none =>
      let old := ofLe (memRead s e a n)
      let s' := memWrite e t a (leBytes n (f old (wGet s e rb).toNat)) s
      pcNext e (wSet e rd (if n = 4 then sext64 (BitVec.ofNat 32 old) else BitVec.ofNat 64 old) s')) s

/-- AMOADD.W (Table 4-8). -/
def execAmoaddW (e : EngId) (rd ra rb : Reg) (s : State) : Out := fbAmo e rd ra rb 4 (fun o b => o + b) s
/-- AMOADD.D (Table 4-8). -/
def execAmoaddD (e : EngId) (rd ra rb : Reg) (s : State) : Out := fbAmo e rd ra rb 8 (fun o b => o + b) s
/-- AMOSWAP.W (Table 4-8). -/
def execAmoswapW (e : EngId) (rd ra rb : Reg) (s : State) : Out := fbAmo e rd ra rb 4 (fun _ b => b) s
/-- AMOSWAP.D (Table 4-8). -/
def execAmoswapD (e : EngId) (rd ra rb : Reg) (s : State) : Out := fbAmo e rd ra rb 8 (fun _ b => b) s

end Sys2Proof.Machine
end

