-- ==== Sys2Proof/Machine/Records.lean ====
section
/-! DEFINITION. The rows that are records of the partner (Tables 11-6, 11-18): each arrives in a frame, whose records take effect
together (R282, R283), and between the cut and the end of step 5 the stream is buffered (Table 11-9, R295). -/

namespace Sys2Proof.Machine

/-- A record of a frame that has been delivered takes effect. -/
def applyRecord (i : PartnerRec) (s : State) : State :=
  if isStream i then
    if s.red.st = .syncing ∧ s.red.step = 5 then setRedSt { s.red with held := s.red.held ++ [i] } s else streamRecord i s
  else match i with
  | .hello m => recTrelexHello m s
  | .handover why => recHandover why s
  | .loadCheck delta result digest => recLoadCheck delta result digest s
  | .loadCommit t act => recLoadCommit t act s
  | .editAgree t b => recEditAgree t b s
  | .tokenPulse n => recTokenPulse n s
  | .tokenReport seen => recTokenReport seen s
  | .batchFetch t act => recBatchFetch t act s
  | .batchData t first act es => recBatchData t first act es s
  | .statePage addr page => recStatePage addr page s
  | .report card => recReportCard card s
  | .partner es => recPartner es s
  | .cut tbrd clk => recCut tbrd clk s
  | .copyEnd pages => recCopyEnd pages s
  | .resyncRequest cause => recResyncRequest cause s
  | _ => s

/-- WORDS. -/
def execWords (f : FromPartner (List WordEntry)) (s : State) : Out := trelexRecord f.rx true (.words f.val) applyRecord s
/-- REFRESH. -/
def execRefresh (f : FromPartner (Fin 4)) (st : StnId) (s : State) : Out := trelexRecord f.rx true (.refresh f.val st) applyRecord s
/-- MARK. -/
def execMark (f : FromPartner TaskId) (kind : MarkKind) (act : Word) (s : State) : Out :=
  trelexRecord f.rx true (.mark f.val kind act) applyRecord s
/-- READ. -/
def execReadRecord (f : FromPartner ReadRec) (s : State) : Out := trelexRecord f.rx (readOk f.val) (.read f.val) applyRecord s
/-- DELTA. -/
def execDelta (f : FromPartner Byte) (_ : Word) (entries : List DeltaEntry) (s : State) : Out :=
  trelexRecord f.rx (entries.all deltaOk) (.delta entries) applyRecord s
/-- COMPARE. -/
def execCompare (f : FromPartner CompareRec) (s : State) : Out := trelexRecord f.rx true (.compare f.val) applyRecord s
/-- STATE. -/
def execStatePage (f : FromPartner Word) (page : List Byte) (s : State) : Out :=
  trelexRecord f.rx (page.length == 1024) (.statePage f.val page) applyRecord s
/-- REPORT. -/
def execReportCard (f : FromPartner (List Word)) (s : State) : Out :=
  trelexRecord f.rx (f.val.length == 16) (.report f.val) applyRecord s
/-- PARTNER. -/
def execPartner (f : FromPartner (List WordEntry)) (s : State) : Out := trelexRecord f.rx true (.partner f.val) applyRecord s
/-- TRELEX_HELLO. -/
def execTrelexHello (f : FromPartner HelloMsg) (s : State) : Out :=
  trelexRecord f.rx (f.val.digest.length == 32) (.hello f.val) applyRecord s
/-- HANDOVER. -/
def execHandover (f : FromPartner Byte) (_ : Dword) (s : State) : Out := trelexRecord f.rx true (.handover f.val) applyRecord s
/-- LOAD_CHECK. -/
def execLoadCheck (f : FromPartner Bool) (result : Byte) (digest : List Byte) (s : State) : Out :=
  trelexRecord f.rx (digest.length == 32) (.loadCheck f.val result digest) applyRecord s
/-- LOAD_COMMIT. -/
def execLoadCommit (f : FromPartner TaskId) (act : Word) (s : State) : Out := trelexRecord f.rx true (.loadCommit f.val act) applyRecord s
/-- EDIT_AGREE. -/
def execEditAgree (f : FromPartner TaskId) (b : Word) (s : State) : Out := trelexRecord f.rx true (.editAgree f.val b) applyRecord s
/-- TOKEN_PULSE. -/
def execTokenPulse (f : FromPartner Word) (s : State) : Out := trelexRecord f.rx true (.tokenPulse f.val) applyRecord s
/-- TOKEN_REPORT. -/
def execTokenReport (f : FromPartner Word) (seen : Bool) (s : State) : Out :=
  trelexRecord f.rx true (.tokenReport seen) applyRecord s
/-- BATCH_FETCH. -/
def execBatchFetch (f : FromPartner TaskId) (act : Word) (s : State) : Out := trelexRecord f.rx true (.batchFetch f.val act) applyRecord s
/-- BATCH_DATA. -/
def execBatchData (f : FromPartner TaskId) (first : Half) (act : Word) (entries : List WordEntry) (s : State) : Out :=
  trelexRecord f.rx (decide (entries.length ≤ 168)) (.batchData f.val first act entries) applyRecord s
/-- CUT. -/
def execCut (f : FromPartner Dword) (clk : Dword) (s : State) : Out := trelexRecord f.rx true (.cut f.val clk) applyRecord s
/-- COPY_END. -/
def execCopyEnd (f : FromPartner Word) (s : State) : Out := trelexRecord f.rx true (.copyEnd f.val) applyRecord s
/-- RESYNC_REQUEST. -/
def execResyncRequest (f : FromPartner Byte) (s : State) : Out := trelexRecord f.rx true (.resyncRequest f.val) applyRecord s

end Sys2Proof.Machine
end

