-- ==== Sys2Proof/Machine/Refresh.lean ====
section
/-! DEFINITION. Margin-read refresh and the end of erases (R301, R302, R317, R318). -/

namespace Sys2Proof.Machine

/-- A sector of a log area leaves its erase: erased, or given up where it failed and no reserve sector is left (R302). -/
def areaErasedNow {α : Type} [DecidableEq α] (L : LogOf α) (x : Nat) (s : State) : State :=
  if inArea L.base L.count x then
    setAreaSec L (x - L.base) { st := if s.stor.retired.contains (phys s x) then .lost else .erased } s
  else s

/-- SECTOR_ERASE_DONE (R301, R302, R320, R330). -/
def execSectorEraseDone (sector : Fin 4096) (ok : Bool) (s : State) : Out :=
  .next (
    let x := sector.val
    if !s.stor.erasing.contains x then s
    else
      let s := eraseNow x (modStor (fun y => { y with erasing := y.erasing.filter (· != x) }) s)
      let s := if ok then s else retireSector (phys s x) s
      ringTurn (areaErasedNow dcLog x (areaErasedNow psLog x s)))

/-- A sector of a log area that holds a weak bit is compacted and erased (R309, R314), an erased one erased again; none where
nothing can take its records. -/
def refreshArea {α : Type} [DecidableEq α] (L : LogOf α) (live : State → α → Bool) (copy : α → State → State) (x : Nat) (s : State) :
    Option State :=
  let i := x - L.base
  let done (s : State) : State := modStor (fun y => { y with refreshed := satInc y.refreshed }) s
  match (areaSec L s i).st with
  | .used => if areaErased L s = [] then none else some (done (areaCompactSector L live copy i s))
  | .erased => some (done (beginErase x (setAreaSec L i { st := .erasing } s)))
  | _ => some s
/-- A weak sector of another area is copied to a spare, the copy verified (R317, R318); none where a rewrite runs or no spare is
left. -/
def refreshCopy (x : Nat) (s : State) : Option State :=
  match s.stor.refresh, pickReserve s x with
  | none, some r =>
    let p := program r s
    if p.1 then some (modStor (fun y => { y with refresh := some (x, r, .copied) }) p.2) else none
  | _, _ => none

/-- Lost bits in a chunk of the package held: it no longer fits its RECEIVED record (R358). -/
def chunkRot (n : Nat) (s : State) : State :=
  match s.upd.pkg with
  | none => s
  | some p =>
    let bad := p.chunks.map (fun c => if c.1 = n then (c.1, (~~~(c.2.getD 0 0)) :: c.2.drop 1) else c)
    { s with upd := { s.upd with pkg := some { p with chunks := bad } } }

/-- REFRESH_CHECK (R317): the sector whose check is oldest. A weak one is rewritten; one that cannot be rewritten now counts as
unchecked and stays the oldest (log 37). -/
def execRefreshCheck (found : CheckFound) (s : State) : Out :=
  .next (
    if !flashUp s then s
    else
      let new_ := (found.worn.map (·.val)).eraseDups.filter (fun x => !s.stor.worn.contains x && !s.stor.retired.contains x)
      let s := found.lost.foldl (fun s p => psRot p.val s) (modStor (fun y => { y with worn := y.worn ++ new_ }) s)
      let s := found.chunks.foldl (fun s n => chunkRot n.val s) s
      let x := s.stor.nextCheck
      let r := if !found.weak then some s
        else if isPs x then refreshArea psLog psLive psCopy x s
        else if isDc x then refreshArea dcLog dcLive dcCopy x s
        else refreshCopy x s
      match r with
      | none => s
      | some s => modStor (fun y => { y with
          nextCheck := (x + 1) % 4096, checkedMs := tset 0 y.checkedMs x s.opMs
          refreshPass := if x = 4095 then y.refreshPass + 1 else y.refreshPass }) s)

/-- With the verified copy in the spare the erase of the original begins (R318). -/
def refreshErase (s : State) : State :=
  match s.stor.refresh with
  | some (x, r, .copied) =>
    if flashUp s then beginErase x (modStor (fun y => { y with refresh := some (x, r, .erased) }) s) else s
  | _ => s

/-- REFRESH_DONE (R318): the bytes are programmed back and verified, the spare is released and erased, and what waited for the
sector is written. A sector that takes no program stays served from the spare. -/
def execRefreshDone (s : State) : Out :=
  .next (match s.stor.refresh with
    | some (x, r, .erased) =>
      if !flashUp s || s.stor.erasing.contains x then s
      else
        let p := program x s
        if !p.1 then p.2
        else logFlush (eraseNow r (modStor (fun y => { y with refresh := none, refreshed := satInc y.refreshed }) p.2))
    | _ => s)

/-- What an abandoned erase or rewrite leaves is erased again (R301, R318, R319). -/
def resumeErases (s : State) : State :=
  let xs := s.stor.abandoned
  let s := modStor (fun y => { y with abandoned := [] }) s
  let s := match s.stor.refresh with
    | some (x, _, st) => repairRecord x 4 (if st = .erased then beginErase x s else s)
    | none => s
  xs.foldl (fun s x =>
    if rewriting s x then s
    else
      let w := s.drawWord
      repairRecord x (w.1.setWidth 8) (beginErase x w.2)) s

end Sys2Proof.Machine
end

