-- ==== Sys2Proof/Machine/Scrub.lean ====
section
/-! DEFINITION. Scrubbing of the configuration planes (R54–R57) and of the engines' memories (R84). -/

namespace Sys2Proof.Machine

/-- At most one record in any 60 s (R57, R84). -/
def minuteOver (s : State) (at_ : Option Nat) : Bool := match at_ with | none => true | some t => decide (t + 60000 ≤ s.opMs)

/-- RG_FAULT of a double-bit error: cause 3 with cluster and cell, or 4 with the routing word (Table 2-23). -/
def scrubFault (e : ScrubErr) : Word :=
  if e.routing then rgFaultBlock 4 e.plane1 e.block.val e.idx.val else rgFaultCell 3 e.plane1 (e.block.val * 128 + e.idx.val % 128)

/-- A plane that a load is writing is not checked (R54): both planes of a region in LOADING, the shadow plane while stage 16
of an edit fills it. -/
def scrubSkips (s : State) (e : ScrubErr) : Bool :=
  let x := s.region e.region.val
  x.st == .loading || (e.plane1 != x.plane1 && (match s.cfg.job with
    | some j => j.delta && j.phase == .staging && j.edit.blocks.any (fun b => b.1 == e.region.val)
    | none => false))

/-- A bit of the word that an error names. -/
def sameWord (e : ScrubErr) (b : PlaneBit) : Bool :=
  b.plane1 == e.plane1 && b.block == e.block && b.routing == e.routing
    && (if e.routing then b.idx == e.idx else b.idx.val % 128 == e.idx.val % 128)
/-- The corrected word is written back to the plane that was read (R55). -/
def correctWord (e : ScrubErr) (x : RegionSt) : RegionSt :=
  let x := (x.flips.filter (sameWord e)).foldl (fun x b => x.flip b) x
  { x with flips := x.flips.filter (fun b => !sameWord e b), scrubCorr := satInc x.scrubCorr, corrNew := satInc x.corrNew }

/-- How many bits of the word that an error names stand upset. -/
def upsetBits (s : State) (e : ScrubErr) : Nat := ((s.region e.region.val).flips.filter (sameWord e)).length
/-- The words that the scrubber finds in error: those that its operand names and every other one of which State holds an upset bit,
double where two bits stand upset (R54, R56). -/
def standingErrs (s : State) (r : Nat) : List ScrubErr :=
  ((s.region r).flips.map (fun b => (⟨Fin.ofNat 16 r, b.plane1, b.block, b.routing, if b.routing then b.idx else Fin.ofNat 256 (b.idx.val % 128), false⟩ : ScrubErr))).eraseDups
def scrubFinds (errs : List ScrubErr) (s : State) : List ScrubErr :=
  let held := regionIds.flatMap (standingErrs s)
  let names (e d : ScrubErr) : Bool := d.region == e.region && d.plane1 == e.plane1 && d.block == e.block && d.routing == e.routing
    && (if e.routing then d.idx == e.idx else d.idx.val % 128 == e.idx.val % 128)
  (errs ++ held.filter (fun e => !errs.any (names e))).map (fun e => { e with double := e.double || decide (2 ≤ upsetBits s e) })

def scrubError (s : State) (e : ScrubErr) : State :=
  let r := e.region.val
  if scrubSkips s e then s
  else if e.double then
    if (s.region r).fault ≠ 0 then s
    else
      let s := healthRequest soRegion (regionFault r (scrubFault e) s)
      match regionOwner s.run r with
      | some t => regionStop t s
      | none => s
  else s.modRegion r (correctWord e)

/-- SCRUB_CORRECTED of region `r`, when corrections wait and 60 s have passed. -/
def scrubReport (s : State) (r : Nat) : State :=
  let x := s.region r
  if x.corrNew = 0 ∨ !minuteOver s x.corrAt then s
  else diaryRaise 0x0002 (BitVec.ofNat 16 r) (wordBytes x.corrNew) (s.setRegion r { x with corrNew := 0, corrAt := some s.opMs })

/-- SCRUB_PASS (R54–R57). -/
def execScrubPass (errs : List ScrubErr) (s : State) : Out :=
  .next (
    if !s.up then s
    else
      let s := regionIds.foldl (fun s r => s.modRegion r (fun x => { x with scrubPass := x.scrubPass + 1 })) s
      regionIds.foldl scrubReport ((scrubFinds errs s).foldl scrubError s))

/-- ENGINE_ECC of engine `e` (R84): corrected errors, or the address of a double-bit error. -/
def engineEcc (e : Nat) (n : Word) (addr : Nat) (s : State) : State :=
  diaryRaise 0x2003 (BitVec.ofNat 16 e) (wordBytes n ++ leBytes 8 addr) s

/-- ENGINE_SCRUB (R84): corrections counted, failed words of LOCAL and of instruction SRAM marked, with one record for each that is
not marked yet. In the safety engines a
double-bit error is SAFE_STOP (R246); a fused-off subsystem is held in reset (R3). -/
def execEngineScrub (e : EngId) (corrected : Nat) (localWords iramWords : List Nat) (s : State) : Out :=
  .next (
    if !s.up ∨ (e.val = safeEng ∧ !s.variant.safety) then s
    else
      let s := s.modEngine e (fun x => { x with corrNew := satAdd x.corrNew corrected })
      let x := s.engine e
      let s := if x.corrNew ≠ 0 ∧ minuteOver s x.corrAt then
          engineEcc e x.corrNew 0 (s.setEngine e { x with corrNew := 0, corrAt := some s.opMs }) else s
      if e.val = safeEng then (if localWords = [] ∧ iramWords = [] then s else safeStop 2 (safePc s) s)
      else
        let s := localWords.foldl (fun s w =>
          if (s.engine e).eccWords.contains w then s
          else engineEcc e 0 (8 * w) (s.modEngine e (fun x => { x with eccWords := x.eccWords ++ [w] }))) s
        iramWords.foldl (fun s w =>
          if (s.engine e).eccInstr.contains w then s
          else engineEcc e 0 (8 * w) (s.modEngine e (fun x => { x with eccInstr := x.eccInstr ++ [w] }))) s)

/-- The bytes of instruction page `p` of engine `e` as the running image holds them. -/
def imagePage (s : State) (e p : Nat) : List Byte := readBytes (chunksOf s.run.code e) (1024 * p) 1024

/-- ISRAM_RELOAD (R84): between Lessons. -/
def execIsramReload (e : EngId) (page : Fin 256) (s : State) : Out :=
  .next (
    let x := s.engine e
    if s.up ∧ x.run = .free ∧ x.eccInstr.any (fun w => w / 128 == page.val) then
      s.setEngine e { x with
        iram := writeBytes x.iram (1024 * page.val) (imagePage s e page.val), eccInstr := x.eccInstr.filter (fun w => w / 128 ≠ page.val) }
    else s)

end Sys2Proof.Machine
end

