-- ==== Sys2Proof/Machine/Supervisor.lean ====
section
/-! DEFINITION. The supervisor: input loss and Dusk (R372–R374), Dawn (R375), resets and their causes (R376–R385), the LED
drives (Table 16-5). -/

namespace Sys2Proof.Machine

def modSup (f : SupSt → SupSt) (s : State) : State := { s with sup := f s.sup }

/-! ### Power input (R372, R373) -/

/-- The return threshold in mV: the typical value of Table 16-6 (log 25). -/
def returnMv : Nat := 18800
def psOk (mv : Half) : Bool := decide (returnMv ≤ mv.toNat)

/-- The hold-up voltage after `dt` ns, within what Table 16-6 allows: while the input is lost the store of 1.1 mF gives at most
22 W, 40 mV² in each ns; else it charges, to at least 38 V within 300 ms, and to no more than 42 V (R373). -/
def holdupAfter (lost charged : Bool) (dt old v : Nat) : Nat :=
  if lost then (if v ≤ old ∧ old * old ≤ v * v + 40 * dt then v else old)
  else
    let least := if charged then max old 38000 else old
    if least ≤ v ∧ v ≤ 42000 then v else least
/-- SUP_HOLDUP_MV and SUP_POWER_MW are measured: free values within these bounds (log 12). -/
def measureSupply (s : State) : State :=
  let d := s.drawWord
  let x := s.sup
  let charged := match x.backAt with | some t => decide (t + 300000000 ≤ s.clockNs) | none => true
  let mv := holdupAfter x.inputLost charged (s.clockNs - x.holdAt) x.holdup.toNat (d.1.toNat % 65536)
  modSup (fun x => { x with holdup := BitVec.ofNat 16 mv, power := (d.1 >>> 16).setWidth 16, holdAt := s.clockNs }) d.2

/-- INPUT_LOSS: the higher input is below the loss threshold; the ride-through begins. -/
def execInputLoss (ps1 ps2 : Half) (s : State) : Out :=
  .next (
    let s := measureSupply s
    let since := if s.sup.inputLost then s.sup.lossNs else s.clockNs
    let s := modSup (fun x => { x with
      ps1 := ps1, ps2 := ps2, ps1Ok := false, ps2Ok := false, inputLost := true, lossNs := since, backAt := none }) s
    if (s.sup.phase == .run || s.sup.phase == .recovery) && !s.sup.riding then
      setIrq 6 (modSup (fun x => { x with riding := true, lossOp := s.opMs }) s)
    else s)

/-- INPUT_RETURN: the higher input is present again; before Dusk the loss has been ridden through. -/
def execInputReturn (ps1 ps2 : Half) (s : State) : Out :=
  .next (
    let s := measureSupply s
    let hi := decide (ps2.toNat ≤ ps1.toNat)
    let absent := !s.sup.ps1Ok && !s.sup.ps2Ok
    let s := modSup (fun x => { x with
      ps1 := ps1, ps2 := ps2, ps1Ok := hi || psOk ps1, ps2Ok := !hi || psOk ps2, inputLost := false
      backAt := if absent then some s.clockNs else x.backAt }) s
    let s := if absent && s.up then setIrq 6 s else s
    if s.sup.riding then modSup (fun x => { x with riding := false, rides := satInc x.rides }) s else s)

/-- SUPPLY_INPUT: one input fails or returns while the other stays present. -/
def execSupplyInput (ps2 returned : Bool) (mv : Half) (s : State) : Out :=
  .next (
    let other := if ps2 then s.sup.ps1Ok else s.sup.ps2Ok
    if !other then s
    else
      let s := modSup (fun x => if ps2 then { x with ps2 := mv, ps2Ok := returned } else { x with ps1 := mv, ps1Ok := returned }) s
      let k : Byte := BitVec.ofNat 8 (1 + ps2.toNat + 2 * returned.toNat)
      diaryRaise 0xF004 noInst ([k, 0] ++ halfBytes mv) s)

/-! ### The end of the activations before a reset that saves (R144, R167) -/

/-- An activation that has not published is aborted (R88, R144). -/
def endActivation (s : State) (t : TaskId) : State :=
  if (s.task t).busy then (abortTask t s).modTask t (fun y => { y with st := .idle }) else s
/-- The words of ended reflex waves are applied (R74), what has not published is aborted. -/
def endActivations (s : State) : State :=
  (List.finRange 32).foldl endActivation (s.img.lane.foldl (fun s _ => laneApply s) s)

/-- An activation, a wave or a step of the reflex lane is under way. -/
def working (s : State) : Bool :=
  taskIds.any (fun t => let x := (s.task t).st; x == .rollCall || x == .running || x == .publish)
    || !s.img.lane.isEmpty || regionIds.any (fun r => (s.region r).wave)
/-- The save can begin: nothing is under way, or the time in which activations may still publish is over; a wave always runs
to its end (R68, R79, R144). -/
def savable (deadline : Nat) (s : State) : Bool :=
  !working s || (decide (deadline ≤ s.now) && regionIds.all (fun r => !(s.region r).wave))
/-- The save of a reset is ordered: no activation starts any more, and 1 ms remains for those under way (R144). -/
def orderSave (code : Byte) (s : State) : State := modSup (fun x => { x with ending := some (code, s.now + 1000000) }) s

/-- A Recess in progress reaches its exit edge, a pending APPLIED record is completed, retain data are saved. In recovery
boot no image runs, so the saved sets stay (log 25). -/
def endAndSave (s : State) : State :=
  let s := appliedRecord (recessExit (endActivations s))
  if s.sup.phase = .recovery then s else retainSave s

/-- A reset that saves enters full reset as soon as the save can begin. -/
def endDue (s : State) : State :=
  match s.sup.ending with
  | some (code, t) =>
    if s.sup.phase = .dusk ∨ !savable t s then s else enterReset code 0xFF 0 true (endAndSave s)
  | none => s

/-- A full reset whose row of Table 16-9 marks a retain save. Once Dusk has begun, Dusk completes (R374). -/
def resetSaved (code : Byte) (s : State) : State :=
  if s.sup.phase = .reset ∨ s.sup.phase = .dusk ∨ s.sup.ending.isSome then s
  else endDue (orderSave code (releaseToken (sendGlideAll (hubGlideSlot s))))

/-- The reset that a posted result has announced begins (R396). -/
def resetDue (s : State) : State :=
  match s.sup.resetAt with
  | some (code, t) =>
    if s.now < t then s
    else
      let s := modSup (fun x => { x with resetAt := none }) s
      if code = rcHostReset ∨ code = rcUpdate then resetSaved code s
      else if s.sup.phase = .dusk then s
      else resetUnsaved code 0xFF 0 true s
  | none => s

/-! ### Dusk (R374, Table 16-7) -/

/-- HOLDUP_LOW in mV: the typical value of Table 16-6 (log 25). -/
def holdupLow : Nat := 34000
/-- The input has been lost for 10 ms, or the hold-up store is below HOLDUP_LOW (R373). -/
def duskDue (s : State) : Bool := decide (s.sup.lossNs + 10000000 ≤ s.clockNs) || decide (s.sup.holdup.toNat < holdupLow)

/-- DUSK: the token goes, outputs and stations glide, no activation starts, an erase in progress is abandoned, pending
counts are entered. -/
def execDusk (s : State) : Out :=
  .next (
    let m := measureSupply s
    if !s.sup.riding ∨ !(s.sup.phase == .run || s.sup.phase == .recovery) ∨ !duskDue m then s
    else
      let s := m
      let s := setIrq 6 (releaseToken (sendGlideAll (hubGlideSlot s)))
      let s := diaryRaise 0xF002 noInst (leBytes 8 s.sup.lossOp) (dcInc 3 s)
      let s := abandonErases (enterSummaries s)
      let s := if s.sup.phase = .recovery then { s with img := { s.img with noSave := true } } else s
      orderSave rcDusk (modSup (fun x => { x with phase := .dusk, riding := false, rstOutLow := true }) s))

/-- DUSK_INTERNAL_RESET: activations have published or are aborted, retain data are saved, every record is entered. The save
cannot begin while an activation may still publish (R144, Table 16-7). -/
def execDuskInternalReset (s : State) : Out :=
  .next (match s.sup.ending with
    | some (_, t) =>
      if s.sup.phase = .dusk ∧ savable t s then
        enterReset rcDusk 0xFF 0 true (if s.run.loaded then endAndSave s else appliedRecord s)
      else s
    | none => s)

/-! ### RST_N and the button (R376–R380) -/

/-- RST_N: shorter than 1 µs never, 10 µs or longer always; in between it may act. -/
def execRstN (lowNs : Nat) (s : State) : Out :=
  .next (
    if lowNs < 1000 then s
    else if 10000 ≤ lowNs then resetSaved rcRstN s
    else
      let r := s.drawBool
      if r.1 then resetSaved rcRstN r.2 else r.2)

/-- The window of the first 3 s of Dawn. -/
def inWindow (ms : Nat) : Bool := decide (ms < 3000)
/-- 50 ms to 2 s. -/
def patternMs (ms : Nat) : Bool := decide (50 ≤ ms) && decide (ms ≤ 2000)

/-- BUTTON_PRESS. In the window presses count only toward the recovery pattern, whose third closing resets (log 25). -/
def execButtonPress (sinceDawnMs openMs : Nat) (s : State) : Out :=
  .next (
    let win := inWindow sinceDawnMs && s.up
    let s := modSup (fun x => { x with button := true, pressWin := win }) s
    let x := s.sup
    if x.stuck || !s.up || !win || !x.patternOpen then s
    else if x.pattern = 4 then
      resetSaved rcButtonRecovery (modSup (fun x => { x with recoveryReq := true }) s)
    else modSup (fun x => { x with pattern := if x.pattern = 2 ∧ patternMs openMs then 3 else 1 }) s)

/-- BUTTON_RELEASE: 50 ms to below 10 s resets; a shorter press is counted. -/
def execButtonRelease (heldMs : Nat) (s : State) : Out :=
  .next (
    let x := s.sup
    let s := modSup (fun x => { x with button := false, pressWin := false }) s
    if x.stuck || !x.button || !s.up then s
    else if x.pressWin then
      modSup (fun y => { y with
        pattern := if x.pattern = 1 ∧ patternMs heldMs then 2 else if x.pattern = 3 ∧ 50 ≤ heldMs then 4 else 0 }) s
    else if heldMs < 50 then modSup (fun y => { y with btnIgnored := satInc y.btnIgnored }) s
    else if heldMs < 10000 then resetSaved rcButton s
    else s)

/-- BUTTON_STUCK is latched with its record: 1 held for 10 s, 2 closed at the start of Dawn. -/
def latchStuck (how : Byte) (s : State) : State :=
  diaryRaise 0xF005 noInst [how] (modSup (fun x => { x with stuck := true, btnStuckN := satInc x.btnStuckN }) s)
/-- BUTTON_STUCK. -/
def execButtonStuck (s : State) : Out := .next (if s.sup.button && !s.sup.stuck && s.up then latchStuck 1 s else s)
/-- BUTTON_STUCK_CLEAR: the input is evaluated again. -/
def execButtonStuckClear (s : State) : Out :=
  .next (if s.sup.button then s else modSup (fun x => { x with stuck := false }) s)

/-! ### Chip-level errors (R22, R29, R384) -/

/-- A full reset for a chip-level error. A failed hub sends no GLIDE slot, a failed network engine no GLIDE_ALL (R31,
R228); during Dawn the cause is latched, the records not yet entered are lost (R329), and Dawn begins anew. -/
def chipReset (code source detail : Byte) (hubDown netDown : Bool) (s : State) : State :=
  if s.sup.phase = .reset then
    { s with
      sup := { s.sup with code := code, source := source, detail := detail, causeOp := s.opMs }, img := { s.img with noSave := true }
      diary := { s.diary with raised := [] } }
  else
    let s := if netDown then { s with net := { s.net with silent := true } } else s
    resetUnsaved code source detail (!hubDown) s

/-- CHIP_LEVEL_ERROR: an uncorrectable ECC error, or a shared unit that fails its self-test; SOURCE names the unit. -/
def execChipLevelError (selftest : Bool) (source : Fin 16) (s : State) : Out :=
  .next (chipReset (if selftest then rcSelftest else rcEcc) (BitVec.ofNat 8 source.val) 0 (source.val == 6) (source.val == 7) s)

/-- SUPERVISOR_WATCHDOG: SOURCE 3, 14 or 15. -/
def execSupervisorWatchdog (w : WdUnit) (s : State) : Out :=
  .next (chipReset rcWatchdog (match w with | .timetable => 3 | .service => 14 | .supervisor => 15) 0 false false s)

/-- The row of a domain in Table 1-4, from 0. -/
def domainRow : ClockDomain → Byte
  | .ckFab => 0 | .ckFbe => 1 | .ckImg => 2 | .ckSvc => 3 | .ckSafe => 4 | .ckNet => 5 | .ckSync => 6 | .ckPcie => 7
  | .ckRtc => 8 | .ckRef => 9 | .channel _ => 10

/-- CLOCK_LOSS (R29): a chip-level clock resets the module; CK_REF holds it in reset until it returns; CK_SYNC takes the
Trelex link down; CK_RTC stops the calendar; CK_PCIE takes the host link down; a channel controller whose clock fails stops
answering the coupler. CK_SAFE does not run where the safety fuse is blown (R3). -/
def execClockLoss (d : ClockDomain) (s : State) : Out :=
  .next (match d with
    | .ckPcie => { s with host := { s.host with pcieUp := false } }
    | .channel c => s.modChan c (fun x => { x with die := { x.die with clkFail := true } })
    | .ckSafe => if s.variant.safety then chipReset rcClockLoss 0xFF (domainRow .ckSafe) false false s else s
    | .ckRtc => rtcClockFail s
    | .ckSync => if pairOn s then linkDown (setRedSt { s.red with l0Up := false, l1Up := false } s) else s
    | .ckRef => modSup (fun x => { x with refLost := true }) (chipReset rcClockLoss 0xFF 9 false false s)
    | d => chipReset rcClockLoss 0xFF (domainRow d) (d == .ckImg) (d == .ckNet) s)

/-! ### Temperature (R385) -/

def setMax (a b : Half) : Half := if a.toInt < b.toInt then b else a
/-- The temperatures as measured, in 1/8 °C, and the warnings that they set or clear, each setting with its record. -/
def measureTemp (base die : Half) (s : State) : State :=
  let warn (old : Bool) (v : Half) (on off : Int) : Bool :=
    if on ≤ v.toInt then true else if v.toInt < off then false else old
  let w := warn s.sup.thermWarn base 680 656
  let d := warn s.sup.dieWarn die 920 880
  let x := s.sup
  let s := modSup (fun x => { x with
    tempBase := base, tempDie := die, maxBase := setMax x.maxBase base, maxDie := setMax x.maxDie die, thermWarn := w, dieWarn := d }) s
  let s := if w && !x.thermWarn then diaryRaise 0xF006 noInst ([1, 0] ++ halfBytes base) s else s
  if d && !x.dieWarn then diaryRaise 0xF006 noInst ([2, 0] ++ halfBytes die) s else s
/-- THERMAL_WARNING. -/
def execThermalWarning (base die : Half) (s : State) : Out := .next (measureTemp base die s)

/-- THERMAL_SHUTDOWN: a reset that saves, held until the die has cooled. -/
def execThermalShutdown (s : State) : Out := .next (modSup (fun x => { x with thermHold := true }) (resetSaved rcThermal s))
/-- THERMAL_RELEASE: below 100 °C, so below the threshold at which DIE_WARN clears. -/
def execThermalRelease (die : Half) (s : State) : Out :=
  .next (if die.toInt < 800 then modSup (fun x => { x with thermHold := false }) (measureTemp s.sup.tempBase die s) else s)

/-! ### Dawn (R375, Table 16-8) -/

/-- Supervisor: what is measured, the straps, the button window, the reset cause of a loss of power (log 25). The hold-up store
has reached 38 V before a task starts (R375); the temperatures are judged (R385). -/
def dawnStart (d : DawnIn) (s : State) : State :=
  let cold := d.cold || s.sup.powerLost
  let a := s.drawBool
  let b := a.2.drawBool
  let v := b.2.drawWord
  let h := v.2.drawWord
  let t := h.2.drawWord
  let s := t.2
  let noPs := !s.sup.ps1Ok && !s.sup.ps2Ok
  let s := modSup (fun x => { x with
    ps1Ok := if noPs then a.1 else x.ps1Ok, ps2Ok := if noPs then !a.1 || b.1 else x.ps2Ok
    ps1 := if noPs then v.1.setWidth 16 else x.ps1, ps2 := if noPs then (v.1 >>> 16).setWidth 16 else x.ps2
    holdup := BitVec.ofNat 16 (38000 + h.1.toNat % 65536 % 4001), power := (h.1 >>> 16).setWidth 16, holdAt := s.clockNs
    maxDie := t.1.setWidth 16, maxBase := (t.1 >>> 16).setWidth 16, console := x.console + 1, dawning := false
    powerLost := cold, refLost := false, dawnMs := d.ms, button := d.button
    rides := 0, btnIgnored := 0, btnStuckN := 0, pattern := 0, pressWin := false, patternOpen := !d.button
    code := if cold ∧ x.code ≠ rcDusk then 0x01 else x.code
    source := if cold ∧ x.code ≠ rcDusk then 0xFF else x.source
    detail := if cold ∧ x.code ≠ rcDusk then 0 else x.detail }) s
  let s := { s with now := 0, rtc := { s.rtc with pwronReq := false }, net := { s.net with glideAll := 0, silent := false, sent := [] } }
  let s := measureVbat d.vbat (measureTemp ((t.1 >>> 16).setWidth 16) (t.1.setWidth 16) s)
  if d.button then latchStuck 2 s else s

/-- The operating time resumes from the greater of OPTIME, when it checks, and DCNT1 × 60,000; within one power-on it does not
fall (R316, R322). -/
def resumeTime (s : State) : State :=
  let kept := max (if s.stor.optimeOk then s.stor.optime else 0) (dcValue s 1 * 60000)
  if s.sup.powerLost then { s with opMs := kept, opNs := 0 } else { s with opMs := max s.opMs kept }
/-- DCNT_SHADOW is rebuilt from flash (R312). -/
def rebuildShadow (s : State) : State :=
  let ns := ((areaRecs dcLog s).map (·.2.counter)).eraseDups
  modStor (fun x => { x with shadow := ns.foldl (fun t n => tset 0 t n (dcValue s n)) [] }) s

def isIncrement : FlashCut → Bool
  | .increment .. => true
  | _ => false
/-- Before the bank is chosen: the sector map is read, an interrupted increment completed, the operating time resumed, so that
DCNT10 counts (R302, R312, R316, R363). -/
def storageOpen (d : DawnIn) (s : State) : State :=
  let s := if d.cuts.contains .remap then remapCut s else s
  let s := modStor (fun x => { x with remap := dawnRemap s }) s
  rebuildShadow (resumeTime ((d.cuts.filter isIncrement).foldl storageSettle s))
/-- Storage: interrupted operations are repaired (R318, R319); the services read the module's pages (R308); the power cycles
count. -/
def storageDawn (d : DawnIn) (s : State) : State :=
  let s := resumeErases ((d.cuts.filter (fun k => !isIncrement k)).foldl storageSettle s)
  let s := serveModulePages (modStor (fun x => { x with ready := true }) (rebuildShadow s))
  let s := dcInc 2 s
  if s.sup.powerLost then modSup (fun x => { x with powerLost := false }) (dcInc 0 s) else s

/-- The Diary: what the supervisor kept of a chip-level reset is entered late (R329), then the DAWN record. -/
def diaryDawn (d : DawnIn) (s : State) : State :=
  let s := d.cuts.foldl diarySettle s
  let late : List Raised := if chipLevel s.sup.code then [⟨0xF001, noInst, padTo 24 (fullResetDetail s), true⟩] else []
  let s := { s with diary := { s.diary with ready := true, fill := floodFill s, refillS := s.opMs / 1000, raised := s.diary.raised ++ late } }
  diaryRaise 0xF003 noInst (wordBytes (mfVersion (runningBank s).manifest) ++ wordBytes s.gen) s

/-- The date that each port's RTC_TIME1 shows until a read of RTC_TIME0 (R338). -/
def latchDates (s : State) : State :=
  { s with host := { s.host with
      pcie := latchDate s.host.pcie s, spi := latchDate s.host.spi s, es := latchDate s.host.es s } }

/-- The host port answers. -/
def phaseStart (p : Phase) (s : State) : State := latchDates (modSup (fun x => { x with phase := p, rstOutLow := false }) { s with host := { s.host with pcieUp := true } })

/-- A Dawn is a channel start for the counts of every channel; the hub compares the firmware, before it sends any record, and the
records (R188, R209, R354, Table 8-7). -/
def dawnChannels (s : State) : State :=
  chanIds.foldl (fun s c => fwCompare c (s.modChan c (fun x => { x with
    check := if s.run.loaded then 1 else 0
    die := { x.die with ovlCount := 0, wdCount := 0, glideCnt := 0, complCnt := 0 } }))) s

/-- Recovery boot (R381): no image runs; the outputs glide. -/
def recoveryDawn (why : BitVec 4) (s : State) : State :=
  let ring := s.cfg.flash.ring.isSome
  let s := { s with net := { s.net with glideAll := if ring then 3 else 0, silent := true, sent := if ring then krioFrame 5 0 0 0 0 0 [] else [] } }
  phaseStart .recovery (setupPlant (dawnChannels <| modSup (fun x => { x with why := why }) s))

/-- The running image is set up (R21, R44, R145, R167, R168, R209, R229). -/
def imageDawn (d : DawnIn) (s : State) : State :=
  let s := setupTimers (setupMemories (setupRegions ⟨d.regionFail, [], []⟩ s))
  let s := setupTasks (setupWords {} s)
  let s := retainRestore (editCarry s) s
  let s := { s with img := { s.img with noSave := false } }
  setupPlant (setupNetwork {} (dawnChannels s))

/-- The safety self-test of Dawn (R248). -/
def safetyDawn (ok : Bool) (s : State) : State :=
  if !s.variant.safety then s
  else holdSafety (if ok then (if s.run.safety.isSome then safeEnter (safeTested s) else s) else safeSelftestFail s)

/-- The pair begins in ARBITRATING, its tasks held (R273, R274). -/
def pairDawn (roleB : Bool) (s : State) : State :=
  if pairOn s then
    holdTasks (setRed .arbitrating false false { s with
      red := { s.red with strapB := roleB, arbNs := s.now }, sup := { s.sup with dawning := true } })
  else s

/-- The input has been present for 20 ms (R374). -/
def inputSteady (s : State) : Bool :=
  !s.sup.inputLost && (match s.sup.backAt with | some t => decide (t + 20000000 ≤ s.clockNs) | none => true)

/-- DAWN. The bank is chosen first; a shared unit that fails its self-test resets the module again (Table 16-8). A die that has
not cooled, CK_REF that does not run and an input that is not steady hold the reset. -/
def execDawn (d : DawnIn) (s : State) : Out :=
  .next (
    if s.sup.phase ≠ .reset ∨ s.sup.thermHold ∨ (s.sup.refLost ∧ !d.refOk) ∨ !inputSteady s then s
    else
      let bank := pickBank d.bankOk d.otherOk (storageOpen d (dawnStart d s))
      match d.sharedFail with
      | some u => chipReset rcSelftest (BitVec.ofNat 8 u.val) 0 false false bank.2
      | none =>
        let s := bootBank bank.1 (storageDawn d bank.2)
        let button := s.sup.recoveryReq
        let s := modSup (fun x => { x with recoveryReq := false }) s
        let s := backupDawn d.canaryOk s
        if bank.1.isNone || button then recoveryDawn (if button then 1 else 2) (diaryDawn d s)
        else
          let s := voidEdits s
          let s := diaryDawn d { s with run := s.cfg.flash, gen := s.cfg.flashGen }
          let s := phaseStart .run (imageDawn d s)
          refreshMirrors (pairDawn d.roleB (safetyDawn d.safetyOk s)))

/-! ### LED drives (Table 16-5) -/

/-- What a LED drive does: off, blinking at 1 Hz or 4 Hz, sinking. -/
inductive Led where
  | off | blink1 | blink4 | on
  deriving DecidableEq, Repr

def tasksRun (s : State) : Bool :=
  taskIds.any (fun t => let x := (s.task t).st; x != .unused && x != .stopped && x != .fault)
def ledRun (s : State) : Led :=
  match s.sup.phase with
  | .reset => .off
  | .dusk => .blink4
  | .run => if dawnGoesOn s then .blink1 else if tasksRun s then .on else .off
  | _ => if tasksRun s then .on else .off
def ledFault (s : State) : Led :=
  if taskIds.any (fun t => (s.task t).st == .fault) || regionIds.any (fun r => (s.region r).st == .fault) then .on
  else if s.sup.stuck || s.sup.thermWarn || s.sup.dieWarn then .blink1 else .off
def ledPair (s : State) : Led :=
  match s.red.st with
  | .active => .on | .ready => .blink1 | .syncing => .blink4 | .comparing => .blink4 | _ => .off
def ledRing (s : State) : Led :=
  if s.net.ring = 0 then .off
  else if s.net.ring = 3 then .blink4
  else if s.net.stns.all (fun e => e.2.st == .running) then .on else .blink1
def ledSafe (s : State) : Led :=
  match s.safe.st with | .run => .on | .stop => .blink1 | _ => .off
def ledService (s : State) : Led :=
  if s.sup.phase = .recovery then .on
  else if s.upd.st = .trial then .blink1
  else if s.upd.st = .preparing then .blink4 else .off

end Sys2Proof.Machine
end

