-- ==== Sys2Proof/Machine/Dispatch.lean ====
section
/-! DEFINITION. One arm per command: the meaning it calls. -/

namespace Sys2Proof.Machine

def exec (i : Instr) (s : State) : Host.Outcome State Fault Refusal :=
  match i with
  | .nop p tag => Sys2Proof.Machine.execNop p tag s
  | .hostReset p tag => Sys2Proof.Machine.execHostReset p tag s
  | .taskStop p tag => Sys2Proof.Machine.execTaskStop p tag s
  | .taskStart p tag => Sys2Proof.Machine.execTaskStart p tag s
  | .hostEvent p tag => Sys2Proof.Machine.execHostEvent p tag s
  | .hostWrite p tag => Sys2Proof.Machine.execHostWrite p tag s
  | .regionRestart p tag => Sys2Proof.Machine.execRegionRestart p tag s
  | .channelRestart p tag => Sys2Proof.Machine.execChannelRestart p tag s
  | .xferAppend p tag => Sys2Proof.Machine.execXferAppend p tag s
  | .xferFetch p tag hostMem => Sys2Proof.Machine.execXferFetch p tag hostMem s
  | .xferClear p tag => Sys2Proof.Machine.execXferClear p tag s
  | .imgBegin p tag => Sys2Proof.Machine.execImgBegin p tag s
  | .imgSegment p tag => Sys2Proof.Machine.execImgSegment p tag s
  | .imgEnd p tag => Sys2Proof.Machine.execImgEnd p tag s
  | .imgAbort p tag => Sys2Proof.Machine.execImgAbort p tag s
  | .uploadTimeout => Sys2Proof.Machine.execUploadTimeout s
  | .psRead p tag => Sys2Proof.Machine.execPsRead p tag s
  | .psWrite p tag => Sys2Proof.Machine.execPsWrite p tag s
  | .dcntRead p tag => Sys2Proof.Machine.execDcntRead p tag s
  | .dcntInc p tag => Sys2Proof.Machine.execDcntInc p tag s
  | .switchover p tag => Sys2Proof.Machine.execSwitchover p tag s
  | .resync p tag => Sys2Proof.Machine.execResync p tag s
  | .updBegin p tag => Sys2Proof.Machine.execUpdBegin p tag s
  | .updChunk p tag => Sys2Proof.Machine.execUpdChunk p tag s
  | .updVerify p tag => Sys2Proof.Machine.execUpdVerify p tag s
  | .updActivate p tag => Sys2Proof.Machine.execUpdActivate p tag s
  | .updConfirm p tag => Sys2Proof.Machine.execUpdConfirm p tag s
  | .updRevert p tag => Sys2Proof.Machine.execUpdRevert p tag s
  | .updCancel p tag => Sys2Proof.Machine.execUpdCancel p tag s
  | .mbResultRead p => Sys2Proof.Machine.execMbResultRead p s
  | .hello r => Sys2Proof.Machine.execHello r s
  | .release r => Sys2Proof.Machine.execRelease r s
  | .regRead r => Sys2Proof.Machine.execRegRead r s
  | .regWrite r => Sys2Proof.Machine.execRegWrite r s
  | .imageRead r => Sys2Proof.Machine.execImageRead r s
  | .execCmd r => Sys2Proof.Machine.execExecCmd r s
  | .forceSet r => Sys2Proof.Machine.execForceSet r s
  | .forceClear r => Sys2Proof.Machine.execForceClear r s
  | .forceList r => Sys2Proof.Machine.execForceList r s
  | .simSet r => Sys2Proof.Machine.execSimSet r s
  | .simClear r => Sys2Proof.Machine.execSimClear r s
  | .simList r => Sys2Proof.Machine.execSimList r s
  | .diarySnap r => Sys2Proof.Machine.execDiarySnap r s
  | .diaryRead r => Sys2Proof.Machine.execDiaryRead r s
  | .clockSet r => Sys2Proof.Machine.execClockSet r s
  | .settingRead r => Sys2Proof.Machine.execSettingRead r s
  | .settingWrite r => Sys2Proof.Machine.execSettingWrite r s
  | .safetySeal r => Sys2Proof.Machine.execSafetySeal r s
  | .safetyPassword r => Sys2Proof.Machine.execSafetyPassword r s
  | .safetyLogClear r => Sys2Proof.Machine.execSafetyLogClear r s
  | .safetyRestart r => Sys2Proof.Machine.execSafetyRestart r s
  | .safetyLogRead r => Sys2Proof.Machine.execSafetyLogRead r s
  | .safetyErase r => Sys2Proof.Machine.execSafetyErase r s
  | .unknownOp op r => Sys2Proof.Machine.execUnknownOp op r s
  | .badLengthMessage ses length => Sys2Proof.Machine.execBadLengthMessage ses length s
  | .sessionOpen cert => Sys2Proof.Machine.execSessionOpen cert s
  | .sessionIdle ses => Sys2Proof.Machine.execSessionIdle ses s
  | .notify ses => Sys2Proof.Machine.execNotify ses s
  | .commit => Sys2Proof.Machine.execCommit s
  | .summerAdd => Sys2Proof.Machine.execSummerAdd s
  | .summerSub => Sys2Proof.Machine.execSummerSub s
  | .rtcCmdUnknown v => Sys2Proof.Machine.execRtcCmdUnknown v s
  | .commitApply => Sys2Proof.Machine.execCommitApply s
  | .calendarSecond => Sys2Proof.Machine.execCalendarSecond s
  | .pwronReqTimeout => Sys2Proof.Machine.execPwronReqTimeout s
  | .rtcTime0Read p => Sys2Proof.Machine.execRtcTime0Read p s
  | .rtcSettingWrite off v => Sys2Proof.Machine.execRtcSettingWrite off v s
  | .rtcSyncCompare => Sys2Proof.Machine.execRtcSyncCompare s
  | .rtcClockFail => Sys2Proof.Machine.execRtcClockFail s
  | .rtcClockRecovered => Sys2Proof.Machine.execRtcClockRecovered s
  | .netPtpSecLoRead p => Sys2Proof.Machine.execNetPtpSecLoRead p s
  | .diaSnap => Sys2Proof.Machine.execDiaSnap s
  | .diaNext => Sys2Proof.Machine.execDiaNext s
  | .diaCursorWrite seq => Sys2Proof.Machine.execDiaCursorWrite seq s
  | .diaryLoadDone => Sys2Proof.Machine.execDiaryLoadDone s
  | .take => Sys2Proof.Machine.execTake s
  | .freeze on => Sys2Proof.Machine.execFreeze on s
  | .snapshotPeriod => Sys2Proof.Machine.execSnapshotPeriod s
  | .snapshotDone => Sys2Proof.Machine.execSnapshotDone s
  | .hostIrqEnWrite v => Sys2Proof.Machine.execHostIrqEnWrite v s
  | .hostRegisterWrite p space off size v => Sys2Proof.Machine.execHostRegisterWrite p space off size v s
  | .spiFrameInvalid => Sys2Proof.Machine.execSpiFrameInvalid s
  | .perstN => Sys2Proof.Machine.execPerstN s
  | .inputLoss ps1 ps2 => Sys2Proof.Machine.execInputLoss ps1 ps2 s
  | .inputReturn ps1 ps2 => Sys2Proof.Machine.execInputReturn ps1 ps2 s
  | .supplyInput ps2 returned mv => Sys2Proof.Machine.execSupplyInput ps2 returned mv s
  | .dusk => Sys2Proof.Machine.execDusk s
  | .duskInternalReset => Sys2Proof.Machine.execDuskInternalReset s
  | .dawn d => Sys2Proof.Machine.execDawn d s
  | .rstN lowNs => Sys2Proof.Machine.execRstN lowNs s
  | .buttonPress sinceDawnMs openMs => Sys2Proof.Machine.execButtonPress sinceDawnMs openMs s
  | .buttonRelease heldMs => Sys2Proof.Machine.execButtonRelease heldMs s
  | .buttonStuck => Sys2Proof.Machine.execButtonStuck s
  | .buttonStuckClear => Sys2Proof.Machine.execButtonStuckClear s
  | .chipLevelError selftest source => Sys2Proof.Machine.execChipLevelError selftest source s
  | .supervisorWatchdog w => Sys2Proof.Machine.execSupervisorWatchdog w s
  | .clockLoss d => Sys2Proof.Machine.execClockLoss d s
  | .thermalWarning base die => Sys2Proof.Machine.execThermalWarning base die s
  | .thermalShutdown => Sys2Proof.Machine.execThermalShutdown s
  | .thermalRelease die => Sys2Proof.Machine.execThermalRelease die s
  | .dueTime t => Sys2Proof.Machine.execDueTime t s
  | .eventArrival trigger => Sys2Proof.Machine.execEventArrival trigger s
  | .rollCall t => Sys2Proof.Machine.execRollCall t s
  | .rollCallEnd t => Sys2Proof.Machine.execRollCallEnd t s
  | .lessonStart l => Sys2Proof.Machine.execLessonStart l s
  | .lessonComplete l => Sys2Proof.Machine.execLessonComplete l s
  | .sealFlip t => Sys2Proof.Machine.execSealFlip t s
  | .taskWatchdog t => Sys2Proof.Machine.execTaskWatchdog t s
  | .inputBatchApplied trelex => Sys2Proof.Machine.execInputBatchApplied trelex s
  | .reflexArrival t => Sys2Proof.Machine.execReflexArrival t s
  | .wave l => Sys2Proof.Machine.execWave l s
  | .waveEnd l upsets => Sys2Proof.Machine.execWaveEnd l upsets s
  | .reflexLaneApply => Sys2Proof.Machine.execReflexLaneApply s
  | .scrubPass errs => Sys2Proof.Machine.execScrubPass errs s
  | .timerExpiry n => Sys2Proof.Machine.execTimerExpiry n s
  | .add e rd ra rb => Sys2Proof.Machine.execAdd e rd ra rb s
  | .sub e rd ra rb => Sys2Proof.Machine.execSub e rd ra rb s
  | .addw e rd ra rb => Sys2Proof.Machine.execAddw e rd ra rb s
  | .subw e rd ra rb => Sys2Proof.Machine.execSubw e rd ra rb s
  | .adds e rd ra rb => Sys2Proof.Machine.execAdds e rd ra rb s
  | .subs e rd ra rb => Sys2Proof.Machine.execSubs e rd ra rb s
  | .addsw e rd ra rb => Sys2Proof.Machine.execAddsw e rd ra rb s
  | .subsw e rd ra rb => Sys2Proof.Machine.execSubsw e rd ra rb s
  | .addusw e rd ra rb => Sys2Proof.Machine.execAddusw e rd ra rb s
  | .subusw e rd ra rb => Sys2Proof.Machine.execSubusw e rd ra rb s
  | .mul e rd ra rb => Sys2Proof.Machine.execMul e rd ra rb s
  | .mulw e rd ra rb => Sys2Proof.Machine.execMulw e rd ra rb s
  | .mulsw e rd ra rb => Sys2Proof.Machine.execMulsw e rd ra rb s
  | .mulusw e rd ra rb => Sys2Proof.Machine.execMulusw e rd ra rb s
  | .div e rd ra rb => Sys2Proof.Machine.execDiv e rd ra rb s
  | .divu e rd ra rb => Sys2Proof.Machine.execDivu e rd ra rb s
  | .divw e rd ra rb => Sys2Proof.Machine.execDivw e rd ra rb s
  | .divuw e rd ra rb => Sys2Proof.Machine.execDivuw e rd ra rb s
  | .rem e rd ra rb => Sys2Proof.Machine.execRem e rd ra rb s
  | .remu e rd ra rb => Sys2Proof.Machine.execRemu e rd ra rb s
  | .remw e rd ra rb => Sys2Proof.Machine.execRemw e rd ra rb s
  | .remuw e rd ra rb => Sys2Proof.Machine.execRemuw e rd ra rb s
  | .and e rd ra rb => Sys2Proof.Machine.execAnd e rd ra rb s
  | .or e rd ra rb => Sys2Proof.Machine.execOr e rd ra rb s
  | .xor e rd ra rb => Sys2Proof.Machine.execXor e rd ra rb s
  | .andn e rd ra rb => Sys2Proof.Machine.execAndn e rd ra rb s
  | .sll e rd ra rb => Sys2Proof.Machine.execSll e rd ra rb s
  | .srl e rd ra rb => Sys2Proof.Machine.execSrl e rd ra rb s
  | .sra e rd ra rb => Sys2Proof.Machine.execSra e rd ra rb s
  | .sllw e rd ra rb => Sys2Proof.Machine.execSllw e rd ra rb s
  | .srlw e rd ra rb => Sys2Proof.Machine.execSrlw e rd ra rb s
  | .sraw e rd ra rb => Sys2Proof.Machine.execSraw e rd ra rb s
  | .rol e rd ra rb => Sys2Proof.Machine.execRol e rd ra rb s
  | .ror e rd ra rb => Sys2Proof.Machine.execRor e rd ra rb s
  | .rolw e rd ra rb => Sys2Proof.Machine.execRolw e rd ra rb s
  | .rorw e rd ra rb => Sys2Proof.Machine.execRorw e rd ra rb s
  | .slt e rd ra rb => Sys2Proof.Machine.execSlt e rd ra rb s
  | .sltu e rd ra rb => Sys2Proof.Machine.execSltu e rd ra rb s
  | .min e rd ra rb => Sys2Proof.Machine.execMin e rd ra rb s
  | .max e rd ra rb => Sys2Proof.Machine.execMax e rd ra rb s
  | .minu e rd ra rb => Sys2Proof.Machine.execMinu e rd ra rb s
  | .maxu e rd ra rb => Sys2Proof.Machine.execMaxu e rd ra rb s
  | .sextb e rd ra => Sys2Proof.Machine.execSextb e rd ra s
  | .sexth e rd ra => Sys2Proof.Machine.execSexth e rd ra s
  | .sextw e rd ra => Sys2Proof.Machine.execSextw e rd ra s
  | .zextb e rd ra => Sys2Proof.Machine.execZextb e rd ra s
  | .zexth e rd ra => Sys2Proof.Machine.execZexth e rd ra s
  | .zextw e rd ra => Sys2Proof.Machine.execZextw e rd ra s
  | .satsb e rd ra => Sys2Proof.Machine.execSatsb e rd ra s
  | .satsh e rd ra => Sys2Proof.Machine.execSatsh e rd ra s
  | .satsw e rd ra => Sys2Proof.Machine.execSatsw e rd ra s
  | .satub e rd ra => Sys2Proof.Machine.execSatub e rd ra s
  | .satuh e rd ra => Sys2Proof.Machine.execSatuh e rd ra s
  | .satuw e rd ra => Sys2Proof.Machine.execSatuw e rd ra s
  | .addi e rd ra imm => Sys2Proof.Machine.execAddi e rd ra imm s
  | .andi e rd ra imm => Sys2Proof.Machine.execAndi e rd ra imm s
  | .ori e rd ra imm => Sys2Proof.Machine.execOri e rd ra imm s
  | .xori e rd ra imm => Sys2Proof.Machine.execXori e rd ra imm s
  | .lui e rd imm => Sys2Proof.Machine.execLui e rd imm s
  | .slti e rd ra imm => Sys2Proof.Machine.execSlti e rd ra imm s
  | .sltiu e rd ra imm => Sys2Proof.Machine.execSltiu e rd ra imm s
  | .slli e rd ra sh => Sys2Proof.Machine.execSlli e rd ra sh s
  | .srli e rd ra sh => Sys2Proof.Machine.execSrli e rd ra sh s
  | .srai e rd ra sh => Sys2Proof.Machine.execSrai e rd ra sh s
  | .lb e rd ra imm => Sys2Proof.Machine.execLb e rd ra imm s
  | .lbu e rd ra imm => Sys2Proof.Machine.execLbu e rd ra imm s
  | .lh e rd ra imm => Sys2Proof.Machine.execLh e rd ra imm s
  | .lhu e rd ra imm => Sys2Proof.Machine.execLhu e rd ra imm s
  | .lw e rd ra imm => Sys2Proof.Machine.execLw e rd ra imm s
  | .lwu e rd ra imm => Sys2Proof.Machine.execLwu e rd ra imm s
  | .ld e rd ra imm => Sys2Proof.Machine.execLd e rd ra imm s
  | .sb e rd ra imm => Sys2Proof.Machine.execSb e rd ra imm s
  | .sh e rd ra imm => Sys2Proof.Machine.execSh e rd ra imm s
  | .sw e rd ra imm => Sys2Proof.Machine.execSw e rd ra imm s
  | .sd e rd ra imm => Sys2Proof.Machine.execSd e rd ra imm s
  | .amoaddW e rd ra rb => Sys2Proof.Machine.execAmoaddW e rd ra rb s
  | .amoaddD e rd ra rb => Sys2Proof.Machine.execAmoaddD e rd ra rb s
  | .amoswapW e rd ra rb => Sys2Proof.Machine.execAmoswapW e rd ra rb s
  | .amoswapD e rd ra rb => Sys2Proof.Machine.execAmoswapD e rd ra rb s
  | .beq e ra rb off => Sys2Proof.Machine.execBeq e ra rb off s
  | .bne e ra rb off => Sys2Proof.Machine.execBne e ra rb off s
  | .blt e ra rb off => Sys2Proof.Machine.execBlt e ra rb off s
  | .bge e ra rb off => Sys2Proof.Machine.execBge e ra rb off s
  | .bltu e ra rb off => Sys2Proof.Machine.execBltu e ra rb off s
  | .bgeu e ra rb off => Sys2Proof.Machine.execBgeu e ra rb off s
  | .j e off => Sys2Proof.Machine.execJ e off s
  | .jal e off => Sys2Proof.Machine.execJal e off s
  | .jalr e rd ra imm => Sys2Proof.Machine.execJalr e rd ra imm s
  | .enti e rd ra imm => Sys2Proof.Machine.execEnti e rd ra imm s
  | .endLesson e => Sys2Proof.Machine.execEnd e s
  | .trap e imm => Sys2Proof.Machine.execTrap e imm s
  | .illegal e word => Sys2Proof.Machine.execIllegal e word s
  | .fadd e p rd ra rb => Sys2Proof.Machine.execFadd e p rd ra rb s
  | .fsub e p rd ra rb => Sys2Proof.Machine.execFsub e p rd ra rb s
  | .fmul e p rd ra rb => Sys2Proof.Machine.execFmul e p rd ra rb s
  | .fdiv e p rd ra rb => Sys2Proof.Machine.execFdiv e p rd ra rb s
  | .fsqrt e p rd ra => Sys2Proof.Machine.execFsqrt e p rd ra s
  | .fmin e p rd ra rb => Sys2Proof.Machine.execFmin e p rd ra rb s
  | .fmax e p rd ra rb => Sys2Proof.Machine.execFmax e p rd ra rb s
  | .fabs e p rd ra => Sys2Proof.Machine.execFabs e p rd ra s
  | .fneg e p rd ra => Sys2Proof.Machine.execFneg e p rd ra s
  | .feq e p rd ra rb => Sys2Proof.Machine.execFeq e p rd ra rb s
  | .flt e p rd ra rb => Sys2Proof.Machine.execFlt e p rd ra rb s
  | .fle e p rd ra rb => Sys2Proof.Machine.execFle e p rd ra rb s
  | .fclass e p rd ra => Sys2Proof.Machine.execFclass e p rd ra s
  | .cvt e src dst rtz rd ra => Sys2Proof.Machine.execCvt e src dst rtz rd ra s
  | .clkrd e rd => Sys2Proof.Machine.execClkrd e rd s
  | .tbrd e rd => Sys2Proof.Machine.execTbrd e rd s
  | .actrd e rd => Sys2Proof.Machine.execActrd e rd s
  | .idrd e rd => Sys2Proof.Machine.execIdrd e rd s
  | .genrd e rd => Sys2Proof.Machine.execGenrd e rd s
  | .fltrd e rd => Sys2Proof.Machine.execFltrd e rd s
  | .ldi e rd ra imm => Sys2Proof.Machine.execLdi e rd ra imm s
  | .ldit e rd ra imm => Sys2Proof.Machine.execLdit e rd ra imm s
  | .ldqt e rd ra imm => Sys2Proof.Machine.execLdqt e rd ra imm s
  | .stq e rd ra imm => Sys2Proof.Machine.execStq e rd ra imm s
  | .stqt e rd ra imm => Sys2Proof.Machine.execStqt e rd ra imm s
  | .ldbb e rd ra imm => Sys2Proof.Machine.execLdbb e rd ra imm s
  | .stbb e rd ra imm => Sys2Proof.Machine.execStbb e rd ra imm s
  | .stbbm e rd ra rb => Sys2Proof.Machine.execStbbm e rd ra rb s
  | .trd e rd ra imm => Sys2Proof.Machine.execTrd e rd ra imm s
  | .trp e rd ra imm => Sys2Proof.Machine.execTrp e rd ra imm s
  | .tin e rd ra imm => Sys2Proof.Machine.execTin e rd ra imm s
  | .trst e rd ra imm => Sys2Proof.Machine.execTrst e rd ra imm s
  | .tpt e rd ra imm => Sys2Proof.Machine.execTpt e rd ra imm s
  | .isramReload e page => Sys2Proof.Machine.execIsramReload e page s
  | .engineScrub e corrected localWords iramWords => Sys2Proof.Machine.execEngineScrub e corrected localWords iramWords s
  | .couplerSlot => Sys2Proof.Machine.execCouplerSlot s
  | .dataField c ok => Sys2Proof.Machine.execDataField c ok s
  | .stopField c ok => Sys2Proof.Machine.execStopField c ok s
  | .configField c ok => Sys2Proof.Machine.execConfigField c ok s
  | .inboundField c ok => Sys2Proof.Machine.execInboundField c ok s
  | .channelBad c => Sys2Proof.Machine.execChannelBad c s
  | .channelLost c => Sys2Proof.Machine.execChannelLost c s
  | .channelWatchdog c => Sys2Proof.Machine.execChannelWatchdog c s
  | .edgeAccepted c level ageUs => Sys2Proof.Machine.execEdgeAccepted c level ageUs s
  | .currentLimit c ma => Sys2Proof.Machine.execCurrentLimit c ma s
  | .overload c set => Sys2Proof.Machine.execOverload c set s
  | .overtemp c => Sys2Proof.Machine.execOvertemp c s
  | .thermalCooldown c => Sys2Proof.Machine.execThermalCooldown c s
  | .openWire c set => Sys2Proof.Machine.execOpenWire c set s
  | .offStateTest c => Sys2Proof.Machine.execOffStateTest c s
  | .namurLineFault c short set => Sys2Proof.Machine.execNamurLineFault c short set s
  | .mismatch c set => Sys2Proof.Machine.execMismatch c set s
  | .lplusLow c set => Sys2Proof.Machine.execLplusLow c set s
  | .controllerStop c => Sys2Proof.Machine.execControllerStop c s
  | .controllerRestart c => Sys2Proof.Machine.execControllerRestart c s
  | .conversion c m => Sys2Proof.Machine.execConversion c m s
  | .outputFault c => Sys2Proof.Machine.execOutputFault c s
  | .setpointUpdate c => Sys2Proof.Machine.execSetpointUpdate c s
  | .glidePhaseEnd c => Sys2Proof.Machine.execGlidePhaseEnd c s
  | .highZPauseEnd c => Sys2Proof.Machine.execHighZPauseEnd c s
  | .channelReady c selftestOk => Sys2Proof.Machine.execChannelReady c selftestOk s
  | .switchTest c mSwitch follows => Sys2Proof.Machine.execSwitchTest c mSwitch follows s
  | .slotSwitch c => Sys2Proof.Machine.execSlotSwitch c s
  | .safeStop cause seen => Sys2Proof.Machine.execSafeStop cause seen s
  | .safeClockCheck devPpm => Sys2Proof.Machine.execSafeClockCheck devPpm s
  | .spareLaneTest detected => Sys2Proof.Machine.execSpareLaneTest detected s
  | .safetySelftest pass => Sys2Proof.Machine.execSafetySelftest pass s
  | .safetyRun t => Sys2Proof.Machine.execSafetyRun t s
  | .safeWatchdog => Sys2Proof.Machine.execSafeWatchdog s
  | .discrepancyFault k => Sys2Proof.Machine.execDiscrepancyFault k s
  | .shaciaDatagram rx d => Sys2Proof.Machine.execShaciaDatagram rx d s
  | .shaciaFrame rx peer bytes => Sys2Proof.Machine.execShaciaFrame rx peer bytes s
  | .connTimeout c => Sys2Proof.Machine.execConnTimeout c s
  | .stationCycleStart st => Sys2Proof.Machine.execStationCycleStart st s
  | .inputFrame f late => Sys2Proof.Machine.execInputFrame f late s
  | .beacon arrived => Sys2Proof.Machine.execBeacon arrived s
  | .portLinkDown port => Sys2Proof.Machine.execPortLinkDown port s
  | .ptpSync => Sys2Proof.Machine.execPtpSync s
  | .ptpMessage port m => Sys2Proof.Machine.execPtpMessage port m s
  | .ppsIn => Sys2Proof.Machine.execPpsIn s
  | .plantFrame rx => Sys2Proof.Machine.execPlantFrame rx s
  | .arp rx target sender => Sys2Proof.Machine.execArp rx target sender s
  | .icmpEcho rx target sender payload => Sys2Proof.Machine.execIcmpEcho rx target sender payload s
  | .modbusConnect => Sys2Proof.Machine.execModbusConnect s
  | .modbusIdle conn => Sys2Proof.Machine.execModbusIdle conn s
  | .readRegisters03 conn unit start qty => Sys2Proof.Machine.execReadRegisters03 conn unit start qty s
  | .readRegisters04 conn unit start qty => Sys2Proof.Machine.execReadRegisters04 conn unit start qty s
  | .writeMultipleRegisters conn unit start qty regs => Sys2Proof.Machine.execWriteMultipleRegisters conn unit start qty regs s
  | .readDeviceIdentification conn => Sys2Proof.Machine.execReadDeviceIdentification conn s
  | .modbusUnknownFunction conn fc => Sys2Proof.Machine.execModbusUnknownFunction conn fc s
  | .ilInReading i10uA => Sys2Proof.Machine.execIlInReading i10uA s
  | .ilFault set => Sys2Proof.Machine.execIlFault set s
  | .arbitrationEnd => Sys2Proof.Machine.execArbitrationEnd s
  | .claimWindowEnd => Sys2Proof.Machine.execClaimWindowEnd s
  | .oeLoss => Sys2Proof.Machine.execOeLoss s
  | .tokenPathPulse => Sys2Proof.Machine.execTokenPathPulse s
  | .handoverRelease => Sys2Proof.Machine.execHandoverRelease s
  | .trelexFrameClose => Sys2Proof.Machine.execTrelexFrameClose s
  | .trelexRetransmit seq => Sys2Proof.Machine.execTrelexRetransmit seq s
  | .laneDown lane1 => Sys2Proof.Machine.execLaneDown lane1 s
  | .laneUp lane1 => Sys2Proof.Machine.execLaneUp lane1 s
  | .linkDown => Sys2Proof.Machine.execLinkDown s
  | .words f => Sys2Proof.Machine.execWords f s
  | .refresh f st => Sys2Proof.Machine.execRefresh f st s
  | .mark f kind act => Sys2Proof.Machine.execMark f kind act s
  | .readRecord f => Sys2Proof.Machine.execReadRecord f s
  | .delta f act entries => Sys2Proof.Machine.execDelta f act entries s
  | .compare f => Sys2Proof.Machine.execCompare f s
  | .statePage f page => Sys2Proof.Machine.execStatePage f page s
  | .reportCard f => Sys2Proof.Machine.execReportCard f s
  | .partner f => Sys2Proof.Machine.execPartner f s
  | .trelexHello f => Sys2Proof.Machine.execTrelexHello f s
  | .helloTimer => Sys2Proof.Machine.execHelloTimer s
  | .handover f tbrd => Sys2Proof.Machine.execHandover f tbrd s
  | .loadCheck f result digest => Sys2Proof.Machine.execLoadCheck f result digest s
  | .loadCommit f act => Sys2Proof.Machine.execLoadCommit f act s
  | .editAgree f b => Sys2Proof.Machine.execEditAgree f b s
  | .tokenPulse f => Sys2Proof.Machine.execTokenPulse f s
  | .tokenReport f seen => Sys2Proof.Machine.execTokenReport f seen s
  | .batchFetch f act => Sys2Proof.Machine.execBatchFetch f act s
  | .batchData f first act entries => Sys2Proof.Machine.execBatchData f first act entries s
  | .cut f clk => Sys2Proof.Machine.execCut f clk s
  | .resyncRequest f => Sys2Proof.Machine.execResyncRequest f s
  | .copyEnd f => Sys2Proof.Machine.execCopyEnd f s
  | .resyncCut => Sys2Proof.Machine.execResyncCut s
  | .noCut => Sys2Proof.Machine.execNoCut s
  | .reportCardTimer => Sys2Proof.Machine.execReportCardTimer s
  | .imageCheckDone => Sys2Proof.Machine.execImageCheckDone s
  | .partnerRefused => Sys2Proof.Machine.execPartnerRefused s
  | .loadStopDone r => Sys2Proof.Machine.execLoadStopDone r s
  | .regionSelftestDone r pass => Sys2Proof.Machine.execRegionSelftestDone r pass s
  | .regionLoadDone r retries failed => Sys2Proof.Machine.execRegionLoadDone r retries failed s
  | .editStored ok => Sys2Proof.Machine.execEditStored ok s
  | .editStaged => Sys2Proof.Machine.execEditStaged s
  | .recessStart => Sys2Proof.Machine.execRecessStart s
  | .recessExit => Sys2Proof.Machine.execRecessExit s
  | .recessTimeout => Sys2Proof.Machine.execRecessTimeout s
  | .appliedRecord => Sys2Proof.Machine.execAppliedRecord s
  | .consolidationDone => Sys2Proof.Machine.execConsolidationDone s
  | .refreshCheck found => Sys2Proof.Machine.execRefreshCheck found s
  | .optimeUpdate => Sys2Proof.Machine.execOptimeUpdate s
  | .operatingMinutes => Sys2Proof.Machine.execOperatingMinutes s
  | .diaryEntry => Sys2Proof.Machine.execDiaryEntry s
  | .diaryDrain => Sys2Proof.Machine.execDiaryDrain s
  | .bucketRefill => Sys2Proof.Machine.execBucketRefill s
  | .summary code => Sys2Proof.Machine.execSummary code s
  | .verificationDone => Sys2Proof.Machine.execVerificationDone s
  | .preparationDone chanFail chanNoLplus => Sys2Proof.Machine.execPreparationDone chanFail chanNoLplus s
  | .autoConfirm => Sys2Proof.Machine.execAutoConfirm s
  | .sessionClose ses => Sys2Proof.Machine.execSessionClose ses s
  | .portLinkUp p => Sys2Proof.Machine.execPortLinkUp p s
  | .lockoutEnd => Sys2Proof.Machine.execLockoutEnd s
  | .resyncRetry => Sys2Proof.Machine.execResyncRetry s
  | .replayLagExpiry t => Sys2Proof.Machine.execReplayLagExpiry t s
  | .heldToActive => Sys2Proof.Machine.execHeldToActive s
  | .brownOut => Sys2Proof.Machine.execBrownOut s
  | .refreshDone => Sys2Proof.Machine.execRefreshDone s
  | .sectorEraseDone sector ok => Sys2Proof.Machine.execSectorEraseDone sector ok s
  | .timerSaturation n => Sys2Proof.Machine.execTimerSaturation n s
  | .ppsOut => Sys2Proof.Machine.execPpsOut s

end Sys2Proof.Machine
end

