-- ==== Sys2Proof/Machine/Tick.lean ====
section
/-! DEFINITION. What time does on an empty queue (log 2): one nanosecond of module time, the collector's take stage, the
timer bank, CK_RTC and the calendar, deferred results, announced resets and the end of a token
pulse. -/

namespace Sys2Proof.Machine

/-- The module timebase, the operating time, which holds at 2^48 − 1 ms, and the plant-side clock advance by 1 ns (R316, R231,
R286, R401). -/
def tickTime (s : State) : State :=
  let wrap := decide (1000000 ≤ s.opNs + 1)
  { s with
    now := s.now + 1
    opNs := if wrap then 0 else s.opNs + 1
    opMs := if wrap then min (s.opMs + 1) (2 ^ 48 - 1) else s.opMs
    net := { s.net with plantNs := s.net.plantNs + 1 } }

/-- CK_IMG has three periods in 4 ns (Table 1-4): the take stage takes one entry from each engine queue and from the safety
queue in each (R138), and a Roll Call reads its rows (R120). What a region queue holds takes effect with its marker, at
LESSON_COMPLETE (R69). -/
def tickCollector (s : State) : State :=
  let s := taskIds.foldl (fun s t => readRows t s) s
  if s.now % 4 = 3 then s else (List.range 25).foldl (fun s e => takeOne (16 + e) s) s

/-- One tick of the timer bank in each µs, at its own phase (R405, R23). -/
def tickTimers (s : State) : State :=
  if s.now % 1000 = Config.timerPhaseNs % 1000 then
    { s with timers := s.timers.foldl (fun (tb : Tab TimerSt) (e : Nat × TimerSt) => tset {} tb e.1 (timerTick e.2)) [] }
  else s

/-- An edge of CK_RTC: a pending commit applies, else the prescaler counts (R339, R340). -/
def rtcEdge (s : State) : State :=
  if s.rtc.commit.isSome then commitApply s
  else if s.rtc.prescaler + 1 < 32768 then setRtc { s.rtc with prescaler := s.rtc.prescaler + 1 } s
  else calendarSecond s

/-- CK_RTC, 32,768 Hz, runs with or without logic power; a failed CK_RTC has no edges (R349). -/
def tickRtc (s : State) : State :=
  if s.rtc.clkFail then s
  else if s.rtc.subNs + 32768 < 1000000000 then setRtc { s.rtc with subNs := s.rtc.subNs + 32768 } s
  else rtcEdge (setRtc { s.rtc with subNs := s.rtc.subNs + 32768 - 1000000000 } s)

/-- VBAT is measured every 1 s while logic power is present (Table 14-1); what it reads is free (log 3). -/
def tickVbat (s : State) : State :=
  if s.now % 1000000000 = 0 then (let d := s.drawWord; measureVbat (d.1.setWidth 16) d.2) else s

/-- Since when the conditions of the automatic confirmation have held (R365). -/
def tickTrial (s : State) : State :=
  let holds := decide (s.upd.st = .trial) && decide (autoConfirmS s ≠ 0) && trialHolds s
  setUpd { s.upd with holdFrom := if holds then some (s.upd.holdFrom.getD s.opMs) else none } s

/-- The apply port goes on when the walk of a void batch has ended (R123). -/
def tickPort (s : State) : State := if s.img.voidEnd ≠ 0 ∧ s.img.voidEnd ≤ s.now then portKick { s with img := { s.img with voidEnd := 0 } } else s

/-- What waits for other state settles: loads and region restarts that waited for tasks, the erase of a sector whose copy is
verified, the claim of a standby whose replay is complete (R292), results, announced resets. -/
def tickSettle (s : State) : State :=
  let s := tryClaim (regionIds.foldl (fun s r => regionTestStart r s) (maybeStop (tickPort s)))
  pulseEnd (endDue (resetDue (esSettle (mbSettle (refreshErase s)))))

/-- One nanosecond without a command. In reset only the channels' clocks, CK_RTC and the calendar run. -/
def tick (s : State) : State :=
  let s := tickRtc { s with clockNs := s.clockNs + 1 }
  if s.up then tickSettle (tickTrial (tickTimers (tickCollector (sendSupervision (syncCommit (tickVbat (tickTime s))))))) else s

end Sys2Proof.Machine
end

