-- ==== Sys2Proof/WellFormed.lean ====
section
/-! DEFINITION. Well-formed commands: operands that the manual's formats allow. A meaning is total on every command; a
command outside these bounds is one that no sender of the manual produces. -/

namespace Sys2Proof

/-- Ring stations are numbered 1–254 (Table 9-2). -/
def StnId.wf (st : StnId) : Bool := decide (1 ≤ st.val) && decide (st.val ≤ 254)

/-- An engineering body: the header's 16 bytes and the body make a LENGTH of 16–65,600 (R235). -/
def EsReq.wf (r : EsReq) : Bool := decide (r.body.length ≤ 65584)

/-- A word entry names an image word and travels in 12 bytes (Table 11-6). -/
def WordEntry.wf (w : WordEntry) : Bool := decide (w.num < 32768)

/-- A READ record: KIND 1–7 and 1–252 values (Table 11-14). -/
def ReadRec.wf (r : ReadRec) : Bool :=
  decide (1 ≤ r.kind.toNat) && decide (r.kind.toNat ≤ 7) && decide (1 ≤ r.values.length) && decide (r.values.length ≤ 252)

/-- A DELTA entry: KIND 1–6 and 12 bytes of state (Table 11-16). -/
def DeltaEntry.wf (d : DeltaEntry) : Bool :=
  decide (1 ≤ d.kind.toNat) && decide (d.kind.toNat ≤ 6) && decide (d.state.length = 12)

/-- A COMPARE record: the active module reports no RESULT, the standby 1 or 2 (Table 11-17). -/
def CompareRec.wf (r : CompareRec) : Bool :=
  if r.fromStandby then decide (r.result.toNat = 1) || decide (r.result.toNat = 2)
  else decide (r.result.toNat = 0) && decide (r.crcStandby = 0)

/-- A HELLO message (Table 11-18): a variant of Table 0-1, a state of Table 11-1, a digest of 32 bytes. -/
def HelloMsg.wf (h : HelloMsg) : Bool :=
  decide (h.variant.toNat ≤ 3) && decide (h.state.toNat ≤ 7) && decide (h.digest.length = 32)

/-- CVT converts between two different kinds of which one is floating (R96). -/
def cvtKindsOk (a b : CvtKind) : Bool := (a == .s || a == .d || b == .s || b == .d) && a != b

/-- The OP codes of Table 9-13 that a request may carry; UNKNOWN_OP carries another (R235). -/
def esRequestOps : List Nat :=
  [0x01, 0x02, 0x10, 0x11, 0x12, 0x20, 0x30, 0x31, 0x32, 0x33, 0x34, 0x35, 0x40, 0x41, 0x50, 0x60, 0x61, 0x70, 0x71, 0x72, 0x73,
   0x74, 0x75]

/-- The command's operands lie within the bounds that its row's format gives; a command not named has none beyond its
operand types. -/
def Instr.wf : Instr → Bool
  | .rtcCmdUnknown v => !(decide (1 ≤ v.toNat) && decide (v.toNat ≤ 3))
  | .rtcSettingWrite off _ => decide (0x0C18 ≤ off.toNat) && decide (off.toNat ≤ 0x0C2C) && decide (off.toNat % 4 = 0)
  | .badLengthMessage _ n => decide (n.toNat < 16) || decide (65600 < n.toNat)
  | .hostRegisterWrite _ _ _ size _ => decide (1 ≤ size) && decide (size ≤ 8)
  | .hello r | .release r | .regRead r | .regWrite r | .imageRead r | .execCmd r | .forceSet r | .forceClear r
  | .forceList r | .simSet r | .simClear r | .simList r | .diarySnap r | .diaryRead r | .clockSet r | .settingRead r
  | .settingWrite r | .safetySeal r | .safetyPassword r | .safetyLogClear r | .safetyRestart r | .safetyLogRead r
  | .safetyErase r => r.wf
  | .unknownOp op r => r.wf && !esRequestOps.contains op.toNat
  | .lessonStart l | .lessonComplete l | .wave l => decide (l < 65536)
  | .waveEnd l _ => decide (l < 65536)
  | .stationCycleStart st => st.wf
  | .refresh _ st => decide (st.val ≤ 254)
  | .cvt _ a b _ _ _ => cvtKindsOk a b
  | .engineScrub _ _ ws ps => ws.all (fun w => decide (w < 32768)) && ps.all (fun p => decide (p < 65536))
  | .writeMultipleRegisters _ _ _ q rs => decide (rs.length = q.toNat)
  | .readRecord f => f.val.wf
  | .words f | .partner f => f.val.all WordEntry.wf
  | .batchData _ _ _ es => decide (es.length ≤ 168) && es.all WordEntry.wf
  | .delta f _ es => (decide (f.val.toNat ≤ 31) || decide (f.val.toNat = 255)) && es.all DeltaEntry.wf
  | .compare f => f.val.wf
  | .statePage _ page => decide (page.length = 1024)
  | .reportCard f => decide (f.val.length = 16)
  | .trelexHello f => f.val.wf
  | .handover f _ => decide (1 ≤ f.val.toNat) && decide (f.val.toNat ≤ 6)
  | .loadCheck _ _ digest => decide (digest.length = 32)
  | .resyncRequest f => decide (1 ≤ f.val.toNat) && decide (f.val.toNat ≤ 3)
  | _ => true

end Sys2Proof
end

