-- ==== Sys2Proof/Safety.lean ====
section
/-! DEFINITION. The words that the statements use: what a well-kept state is, what an FB instruction leaves, what a posted
result is. -/

namespace Sys2Proof.Machine

/-! ### Well-kept states -/

/-- An engine's memories are in canonical form. -/
def EngineSt.memWf (e : EngineSt) : Bool := e.iram.wf && e.local_.wf

/-- Every byte memory of the module is in canonical form: SHARED, SAFE_IN, SAFE_OUT, XFER_BUF, the MSI-X table, and each
engine's instruction SRAM and LOCAL. -/
def memoriesWf (s : State) : Prop :=
  s.shared.wf ∧ s.safe.safeIn.wf ∧ s.safe.safeOut.wf ∧ s.host.xfer.wf ∧ s.host.msixTable.wf ∧ ∀ e, (s.engine e).memWf

/-- The sub-second prescaler counts 0–32,767 (R340); the operating time's ns stay below 1 ms and CK_RTC's phase below one
edge (log 2). -/
def clocksWf (s : State) : Prop := s.rtc.prescaler < 32768 ∧ s.rtc.subNs < 1000000000 ∧ s.opNs < 1000000

/-! ### FB instructions -/

/-- Engine `e` runs Lesson `l` of task `tk` and the word at its PC can be fetched (R81, R84, R86). -/
def Issues (s : State) (e : EngId) (tk : TaskId) (l : Nat) : Prop :=
  (s.engine e).run = .lesson tk l ∧ fetchFault s e = none

/-- Of the engines only `e` changed, and of it only its registers and PC; PC is the next word's. -/
def StepsOn (s t : State) (e : EngId) : Prop :=
  pcOf t e = pcOf s e + 4 ∧ (∀ f : Nat, f ≠ e.val → t.engine f = s.engine f)
    ∧ { t.engine e with w := (s.engine e).w, pc := (s.engine e).pc } = s.engine e

/-- Register `rd` of engine `e` takes `v` (W0 stays 0), its other registers stay, PC moves to the next word. -/
def Writes (s t : State) (e : EngId) (rd : Reg) (v : Dword) : Prop :=
  wGet t e rd = (if rd = 0 then 0 else v) ∧ (∀ r, r ≠ rd → wGet t e r = wGet s e r) ∧ StepsOn s t e

/-- `i` runs on `s` and writes `v` to register `rd` of engine `e`; nothing else in the module changes. -/
def Gives (s : State) (i : Instr) (e : EngId) (rd : Reg) (v : Dword) : Prop :=
  ∃ t, exec i s = .next t ∧ Writes s t e rd v ∧ { t with engines := s.engines } = s

/-- As Gives, for an instruction that may set flag `bit` of the task's TASK_FAULT: it is set when `raised`, else kept; a record
is raised only then. -/
def GivesFlag (s : State) (i : Instr) (e : EngId) (tk : TaskId) (rd : Reg) (v : Dword) (bit : Nat) (raised : Bool) : Prop :=
  ∃ t, exec i s = .next t ∧ Writes s t e rd v
    ∧ (t.task tk).fault = (if raised then (s.task tk).fault ||| boolBit bit true else (s.task tk).fault)
    ∧ (∀ u : Nat, u ≠ tk.val → t.task u = s.task u) ∧ { t.task tk with fault := (s.task tk).fault } = s.task tk
    ∧ (raised = false → t.diary = s.diary)
    ∧ { t with engines := s.engines, tasks := s.tasks, diary := s.diary } = s

/-- As Gives, in a module that is no standby; the active module of a pair adds the value to its stream. -/
def GivesStreamed (s : State) (i : Instr) (e : EngId) (rd : Reg) (v : Dword) : Prop :=
  ∃ t, exec i s = .next t ∧ Writes s t e rd v ∧ { t with engines := s.engines, red := s.red } = s

/-- No register of engine `e` changes and PC moves to the next word. -/
def Passes (s t : State) (e : EngId) : Prop := (∀ r, wGet t e r = wGet s e r) ∧ StepsOn s t e

/-- `i` places `x` at the end of its engine's queue and moves on. In a queue that holds 128 entries the first one is taken
first (R138, log 2). -/
def Queues (s : State) (i : Instr) (e : EngId) (x : QEntry) : Prop :=
  let q := engQueue e
  ∃ t, exec i s = .next t ∧ Passes s t e
    ∧ queueOf t q = queueOf (if 128 ≤ (queueOf s q).length then takeOne q s else s) q ++ [x]
    ∧ ((queueOf s q).length < 128 → (∀ k : Nat, k ≠ q → queueOf t k = queueOf s k)
        ∧ { t with engines := s.engines, img := { t.img with queues := s.img.queues } } = s)

/-- `i` ends in a stopping fault of engine `e`: no register and no memory changes; the task takes STOPPED or FAULT when its
activation ends, with CAUSE and ENGINE in TASK_FAULT unless an earlier fault stands there (R109). -/
def Faults (s : State) (i : Instr) (e : EngId) (tk : TaskId) (cause : Nat) (word : Word) (aux : Nat) : Prop :=
  exec i s = .next (fbStop e tk cause word aux s)

/-- The exact integer in signed, or unsigned, range of `n` bits, else the nearer bound (R93). -/
def nearestS (n : Nat) (v : Int) : Dword := BitVec.ofInt 64 (max (-(2 : Int) ^ (n - 1)) (min ((2 : Int) ^ (n - 1) - 1) v))
def nearestU (n : Nat) (v : Int) : Dword := BitVec.ofInt 64 (max 0 (min ((2 : Int) ^ n - 1) v))

/-! ### Commands -/

/-- `i` runs on `s` and leaves a state with `P`. -/
def Runs (i : Instr) (s : State) (P : State → Prop) : Prop := ∃ t, exec i s = .next t ∧ P t

/-- Apart from HOST_IRQ with its vectors, the events that sessions gather and the records that the Diary is about to take, `t`
is `s`. -/
def SignalsOnly (s t : State) : Prop :=
  { t with
    host := { t.host with irq := s.host.irq, msixSent := s.host.msixSent, msixCount := s.host.msixCount }
    es := { t.es with s0 := { t.es.s0 with bits := s.es.s0.bits }, s1 := { t.es.s1 with bits := s.es.s1.bits } }
    diary := { t.diary with
      raised := s.diary.raised, dropped := s.diary.dropped, lost := s.diary.lost, lostFirst := s.diary.lostFirst
      lostLast := s.diary.lostLast } } = s

/-- Of the channels only `c` changed; outside the channels there are signals at most. -/
def ChanOnly (s t : State) (c : Nat) : Prop :=
  (∀ k : Nat, k ≠ c → t.chan k = s.chan k) ∧ SignalsOnly s { t with chans := s.chans }

/-! ### The host mailbox (R392, R393) -/

/-- The host port answers in Run through both ways, and no mailbox command is in progress. -/
def MbFree (s : State) : Prop := s.running = true ∧ s.mb.busy = none ∧ s.pcieReach = true

/-- MB_ARGi as a number. -/
def argN (s : State) (i : Nat) : Nat := (tget 0 s.mb.args i).toNat

/-- A command issued at `s` with CODE and TAG has been answered in `t`: BUSY is clear, and the result registers hold STATUS, the
tag and code, RVAL padded with zeros, RDATA; MB_DONE is set. -/
def Posted (s t : State) (code : Nat) (tag : Half) (st : Byte) (rv : List Word) (data : List Byte) : Prop :=
  t.mb.busy = none ∧ t.mb.issued = s.mb.issued + 1 ∧ t.mb.rseq = s.mb.issued + 1 ∧ t.mb.rstat = st
    ∧ t.mb.rtag = atBit 16 tag ||| natAt 0 code ∧ t.mb.rval = (rv ++ List.replicate 8 0).take 8 ∧ t.mb.rdata = padTo 256 data
    ∧ t.host.irq.getLsbD 0 = true

/-- The command goes on: BUSY with its code, tag and latched arguments; no result is posted. -/
def GoesOn (s t : State) (code : Nat) (tag : Half) : Prop :=
  t.mb.busy = some { code := BitVec.ofNat 16 code, tag := tag, args := mbArgs s } ∧ t.mb.issued = s.mb.issued + 1
    ∧ t.mb.rseq = s.mb.rseq ∧ t.mb.rstat = s.mb.rstat ∧ t.mb.rval = s.mb.rval

/-- Apart from the mailbox's sequence and result registers and from signals, `t` is `s`; a valid SPI access clears the mark of
an invalid one. -/
def MbOnly (s t : State) : Prop :=
  SignalsOnly s { t with
    mb := { t.mb with
      busy := s.mb.busy, issued := s.mb.issued, rseq := s.mb.rseq, rstat := s.mb.rstat, rtag := s.mb.rtag, rval := s.mb.rval
      rdata := s.mb.rdata }
    host := { t.host with spiLow := s.host.spiLow } }

/-! ### Full resets (R382, Table 16-10) -/

/-- `t` is `s` in internal reset with the cause latched: everything cleared that a full reset clears, erases abandoned, the token
released, the calendar and the operating time kept; of regions and engines only the time of their last correction record stays,
and a synchronisation of the clock that pends is dropped (log 41). -/
def AfterReset (s t : State) (code source detail : Byte) : Prop :=
  t.sup.phase = .reset ∧ t.sup.code = code ∧ t.sup.source = source ∧ t.sup.detail = detail ∧ t.now = 0 ∧ t.tasks = []
    ∧ (∀ r, { t.region r with corrAt := none } = {}) ∧ t.timers = [] ∧ (∀ e, { t.engine e with corrAt := none } = {}) ∧ t.shared = []
    ∧ t.stor.erasing = [] ∧ t.stor.ready = false ∧ t.run = {} ∧ t.host = {} ∧ t.mb = {}
    ∧ { t.net with glideAll := 0, silent := false, sent := [] } = {} ∧ t.es = {} ∧ t.red.oe = false ∧ t.red.token = false
    ∧ t.rtc = { s.rtc with syncAt := none, syncing := false, commit := if s.rtc.syncing then none else s.rtc.commit } ∧ t.opMs = s.opMs

/-- Every die stays as it is, and every channel has been sent GLIDE = 1 (R210, Tables 1-7, 8-14). -/
def DiesGlide (s t : State) : Prop :=
  ∀ c : ChanId, (t.chan c).die = (s.chan c).die
    ∧ (t.chan c).out.kind = .data ∧ (t.chan c).out.tag.getLsbD 5 = true

/-- A module without a partner, without a load or edit, no task of which has work to end first (R144). -/
def Quiet (s : State) : Prop := s.red.st = .single ∧ s.cfg.job = none ∧ working s = false

/-! ### The engineering service (chapter 09) -/

/-- The session is open after its HELLO, in Run, with no request before this one; the request has FLAGS 0 (R235, R236). -/
def EsReady (s : State) (r : EsReq) : Prop :=
  let x := sesOf s r.ses
  s.running = true ∧ x.opened = true ∧ x.hello = true ∧ x.queue = [] ∧ x.stream = [] ∧ esWaiting s r.ses = false ∧ r.flags = 0

/-- The response to `r` has been sent in its session. -/
def EsAnswers (s t : State) (r : EsReq) (op status : Nat) (body : List Byte) : Prop :=
  (sesOf t r.ses).resp = esMessage op 1 r.reqId status body ∧ (sesOf t r.ses).sent = (sesOf s r.ses).sent + 1
    ∧ (sesOf t r.ses).queue = [] ∧ (sesOf t r.ses).stream = []

/-- Apart from the last message of session `i` and the time of its last request, `t` is `s`. -/
def EsOnly (s t : State) (i : SesId) : Prop :=
  modSes i (fun y => { y with resp := (sesOf s i).resp, sent := (sesOf s i).sent, lastNs := (sesOf s i).lastNs }) t = s

/-- A log area has room in its open sector, whose header is valid, and erased sectors in reserve; no sector is about to fail a
program (R301, R302). -/
def AreaRoom {α : Type} [DecidableEq α] (L : LogOf α) (s : State) : Prop :=
  s.stor.worn = [] ∧ s.stor.retired = [] ∧ twf {} (L.get s.stor).secs = true ∧ areaFit L s = true
    ∧ (areaSec L s (areaOpen L s)).head.any (headOk L) = true ∧ 8 < (areaErased L s).length

/-- The parameter store has room and its SEQ is above every record's (R305). -/
def StoreRoom (s : State) : Prop := s.stor.ready = true ∧ AreaRoom psLog s ∧ ∀ r ∈ psRecs s, r.seq < s.stor.psSeq

/-- Apart from what the connections and the counts of its Modbus server hold and from the rate's record of arrivals, `t` is `s`. -/
def ServerOnly (s t : State) : Prop :=
  { t with net := { t.net with
      conns := s.net.conns, mbReq := s.net.mbReq, mbRefused := s.net.mbRefused, rate3 := s.net.rate3, rate4 := s.net.rate4 } } = s

/-- A safe frame `bs` from `peer` reaches the safety subsystem, by UDP through R243 or in a KRIO SAFE frame through R213; `u` is `s`
without the datagram. -/
def ShaciaArrives (s : State) (rx : ShaciaRx) (p : Word) (b : List Byte) (udp : Bool) (peer : Word) (bs : List Byte) (u : State) : Prop :=
  match rx with
  | .datagram => udp = true ∧ peer = p ∧ bs = b ∧ s.safe.inbox.contains (p, b) = true
      ∧ u = { s with safe := { s.safe with inbox := s.safe.inbox.erase (p, b) } }
  | .ring fcsOk tagged ether => udp = false ∧ tagged = false ∧ ether = .krio ∧ krioDiscard s ⟨b, fcsOk, tagged, ether⟩ = false
      ∧ fieldB b 1 = 7 ∧ peer = natAt 0 (field b 2 1) ∧ bs = (b.drop 0x14).take (field b 6 2) ∧ u = s

/-! ### The pair (chapter 11) -/

/-- A record comes over the link of a pair in its turn: the first of the next frame, or the next of the frame that is arriving
(R283). -/
def Comes (s : State) (rx : TrelexRx) : Prop := pairOn s = true ∧ s.red.linkUp = true ∧ inOrder rx s = true

/-- The record is the only one of a frame that comes in its turn with its CRC right, so that it takes effect at once. -/
def Arrives (s : State) (rx : TrelexRx) : Prop := Comes s rx ∧ rx.crcOk = true ∧ rx.index = 0 ∧ rx.last = true

/-- A row that brings one record of the partner, with that record; its KIND, TYPE and body length are allowed (R282). -/
def BringsRecord (rx : TrelexRx) (i : Instr) (p : PartnerRec) : Prop :=
  match p with
  | .words es => i = .words ⟨rx, es⟩
  | .refresh w st => i = .refresh ⟨rx, w⟩ st
  | .mark t k a => i = .mark ⟨rx, t⟩ k a
  | .read r => i = .readRecord ⟨rx, r⟩ ∧ readOk r = true
  | .delta es => (∃ t a, i = .delta ⟨rx, t⟩ a es) ∧ es.all deltaOk = true
  | .compare c => i = .compare ⟨rx, c⟩
  | .batchFetch t a => i = .batchFetch ⟨rx, t⟩ a
  | .batchData t f a es => i = .batchData ⟨rx, t⟩ f a es ∧ es.length ≤ 168
  | .statePage a b => i = .statePage ⟨rx, a⟩ b ∧ b.length = 1024
  | .report c => i = .reportCard ⟨rx, c⟩ ∧ c.length = 16
  | .partner es => i = .partner ⟨rx, es⟩
  | .cut t c => i = .cut ⟨rx, t⟩ c
  | .copyEnd n => i = .copyEnd ⟨rx, n⟩
  | .resyncRequest c => i = .resyncRequest ⟨rx, c⟩
  | .tokenPulse n => i = .tokenPulse ⟨rx, n⟩
  | .tokenReport b => ∃ n, i = .tokenReport ⟨rx, n⟩ b
  | .handover c => ∃ t, i = .handover ⟨rx, c⟩ t
  | .hello h => i = .trelexHello ⟨rx, h⟩ ∧ h.digest.length = 32
  | .loadCheck d r g => i = .loadCheck ⟨rx, d⟩ r g ∧ g.length = 32
  | .loadCommit t a => i = .loadCommit ⟨rx, t⟩ a
  | .editAgree t b => i = .editAgree ⟨rx, t⟩ b

/-- A row that brings a record whose KIND or length is not allowed (R282). -/
def Malformed (rx : TrelexRx) (i : Instr) : Prop :=
  (∃ r, i = .readRecord ⟨rx, r⟩ ∧ readOk r = false) ∨ (∃ t a es, i = .delta ⟨rx, t⟩ a es ∧ es.all deltaOk = false)
    ∨ (∃ a b, i = .statePage ⟨rx, a⟩ b ∧ b.length ≠ 1024) ∨ (∃ c, i = .reportCard ⟨rx, c⟩ ∧ c.length ≠ 16)
    ∨ (∃ h, i = .trelexHello ⟨rx, h⟩ ∧ h.digest.length ≠ 32) ∨ (∃ d r g, i = .loadCheck ⟨rx, d⟩ r g ∧ g.length ≠ 32)
    ∨ (∃ t f a es, i = .batchData ⟨rx, t⟩ f a es ∧ 168 < es.length)

/-- Apart from the redundancy controller's own registers and buffers and from signals, `t` is `s`. -/
def RedOnly (s t : State) : Prop := SignalsOnly s { t with red := s.red }

/-- The record with KIND and body has been put at the end of the frame that `t` fills (Table 11-6). -/
def Sends (t : State) (kind : Byte) (body : List Byte) : Prop :=
  ∃ front, t.red.filling = front ++ ([kind, 0] ++ leBytes 2 body.length ++ body)

/-- One more Diary record of `code` has been raised in `t`. -/
def RaisesOne (s t : State) (code : Half) : Prop := ∃ r, t.diary.raised = s.diary.raised ++ [r] ∧ r.code = code

/-! ### Loads and edits (chapters 02, 06) -/

/-- The running image, its generation and every task are as before. -/
def RunsOn (s t : State) : Prop := t.run = s.run ∧ t.gen = s.gen ∧ t.tasks = s.tasks

/-- The load or edit has ended with STAGE, STATUS and DETAIL; what runs is as before (R40). -/
def EndsRefused (s t : State) (stage status : Byte) (detail : Nat) : Prop :=
  t.cfg.job = none ∧ t.cfg.stage = stage ∧ t.cfg.status = status ∧ t.cfg.detail = BitVec.ofNat 32 detail ∧ RunsOn s t

end Sys2Proof.Machine
end

