-- ==== Sys2Proof/Certificates/Slice0/Obligations.lean ====
section
/-! DEFINITION. The statements for the provers. -/

open Sys2Proof
open Sys2Proof.Machine

/-! ### FB instructions (chapter 04) -/

/-- R93, Table 4-7: the wrapping and bitwise operations; a saturating operation returns the exact result when it fits the type,
otherwise the nearer bound; nothing but Wd and PC changes. -/
def Obligations.WrappingBitwiseAndSaturatingResults : Prop :=
    (∀ (s : State) (e : EngId) (tk : TaskId) (l : Nat) (rd ra rb : Reg) (imm : Half), Issues s e tk l →
      let a := wGet s e ra
      let b := wGet s e rb
      let a32 : Word := a.setWidth 32
      let b32 : Word := b.setWidth 32
      Gives s (.add e rd ra rb) e rd (a + b) ∧ Gives s (.addi e rd ra imm) e rd (a + imm.signExtend 64) ∧ Gives s (.sub e rd ra rb) e rd (a - b)
        ∧ Gives s (.mul e rd ra rb) e rd (a * b)
        ∧ Gives s (.addw e rd ra rb) e rd ((a32 + b32).signExtend 64)
        ∧ Gives s (.subw e rd ra rb) e rd ((a32 - b32).signExtend 64)
        ∧ Gives s (.mulw e rd ra rb) e rd ((a32 * b32).signExtend 64)
        ∧ Gives s (.and e rd ra rb) e rd (a &&& b) ∧ Gives s (.or e rd ra rb) e rd (a ||| b)
        ∧ Gives s (.xor e rd ra rb) e rd (a ^^^ b) ∧ Gives s (.andn e rd ra rb) e rd (a &&& ~~~b))
    ∧
    (∀ (s : State) (e : EngId) (tk : TaskId) (l : Nat) (rd ra rb : Reg), Issues s e tk l →
      let a := wGet s e ra
      let b := wGet s e rb
      let aS := (a.setWidth 32).toInt
      let bS := (b.setWidth 32).toInt
      let aU : Int := (a.setWidth 32).toNat
      let bU : Int := (b.setWidth 32).toNat
      Gives s (.adds e rd ra rb) e rd (nearestS 64 (a.toInt + b.toInt))
        ∧ Gives s (.subs e rd ra rb) e rd (nearestS 64 (a.toInt - b.toInt))
        ∧ Gives s (.addsw e rd ra rb) e rd (nearestS 32 (aS + bS)) ∧ Gives s (.subsw e rd ra rb) e rd (nearestS 32 (aS - bS))
        ∧ Gives s (.mulsw e rd ra rb) e rd (nearestS 32 (aS * bS))
        ∧ Gives s (.addusw e rd ra rb) e rd (nearestU 32 (aU + bU)) ∧ Gives s (.subusw e rd ra rb) e rd (nearestU 32 (aU - bU))
        ∧ Gives s (.mulusw e rd ra rb) e rd (nearestU 32 (aU * bU))
        ∧ Gives s (.satsb e rd ra) e rd (nearestS 8 a.toInt) ∧ Gives s (.satsh e rd ra) e rd (nearestS 16 a.toInt)
        ∧ Gives s (.satsw e rd ra) e rd (nearestS 32 a.toInt) ∧ Gives s (.satub e rd ra) e rd (nearestU 8 a.toInt)
        ∧ Gives s (.satuh e rd ra) e rd (nearestU 16 a.toInt) ∧ Gives s (.satuw e rd ra) e rd (nearestU 32 a.toInt))

/-- Tables 4-7 and 4-8: shifts take the count modulo the width, the .W forms the low 32 bits; compares, minima and maxima,
extensions, and the immediate forms. -/
def Obligations.ShiftCompareExtendAndImmediateResults : Prop :=
    (∀ (s : State) (e : EngId) (tk : TaskId) (l : Nat) (rd ra rb : Reg) (sh : BitVec 6), Issues s e tk l →
      let a := wGet s e ra
      let a32 : Word := a.setWidth 32
      let n := (wGet s e rb).toNat % 64
      let m := (wGet s e rb).toNat % 32
      Gives s (.sll e rd ra rb) e rd (a <<< n) ∧ Gives s (.srl e rd ra rb) e rd (a >>> n)
        ∧ Gives s (.sra e rd ra rb) e rd (a.sshiftRight n)
        ∧ Gives s (.rol e rd ra rb) e rd (a.rotateLeft n) ∧ Gives s (.ror e rd ra rb) e rd (a.rotateRight n)
        ∧ Gives s (.sllw e rd ra rb) e rd ((a32 <<< m).signExtend 64) ∧ Gives s (.srlw e rd ra rb) e rd ((a32 >>> m).signExtend 64)
        ∧ Gives s (.sraw e rd ra rb) e rd ((a32.sshiftRight m).signExtend 64)
        ∧ Gives s (.rolw e rd ra rb) e rd ((a32.rotateLeft m).setWidth 64) ∧ Gives s (.rorw e rd ra rb) e rd ((a32.rotateRight m).setWidth 64)
        ∧ Gives s (.slli e rd ra sh) e rd (a <<< sh.toNat) ∧ Gives s (.srli e rd ra sh) e rd (a >>> sh.toNat)
        ∧ Gives s (.srai e rd ra sh) e rd (a.sshiftRight sh.toNat))
    ∧
    (∀ (s : State) (e : EngId) (tk : TaskId) (l : Nat) (rd ra rb : Reg) (imm : Half), Issues s e tk l →
      let a := wGet s e ra
      let b := wGet s e rb
      let si : Dword := imm.signExtend 64
      let zi : Dword := imm.setWidth 64
      Gives s (.slt e rd ra rb) e rd (if a.toInt < b.toInt then 1 else 0)
        ∧ Gives s (.sltu e rd ra rb) e rd (if a.toNat < b.toNat then 1 else 0)
        ∧ Gives s (.slti e rd ra imm) e rd (if a.toInt < si.toInt then 1 else 0)
        ∧ Gives s (.sltiu e rd ra imm) e rd (if a.toNat < si.toNat then 1 else 0)
        ∧ Gives s (.min e rd ra rb) e rd (BitVec.ofInt 64 (min a.toInt b.toInt))
        ∧ Gives s (.max e rd ra rb) e rd (BitVec.ofInt 64 (max a.toInt b.toInt))
        ∧ Gives s (.minu e rd ra rb) e rd (BitVec.ofNat 64 (min a.toNat b.toNat))
        ∧ Gives s (.maxu e rd ra rb) e rd (BitVec.ofNat 64 (max a.toNat b.toNat))
        ∧ Gives s (.sextb e rd ra) e rd ((a.setWidth 8).signExtend 64) ∧ Gives s (.sexth e rd ra) e rd ((a.setWidth 16).signExtend 64)
        ∧ Gives s (.sextw e rd ra) e rd ((a.setWidth 32).signExtend 64) ∧ Gives s (.zextb e rd ra) e rd (a &&& 0xFF)
        ∧ Gives s (.zexth e rd ra) e rd (a &&& 0xFFFF) ∧ Gives s (.zextw e rd ra) e rd (a &&& 0xFFFFFFFF)
        ∧ Gives s (.addi e rd ra imm) e rd (a + si) ∧ Gives s (.andi e rd ra imm) e rd (a &&& zi)
        ∧ Gives s (.ori e rd ra imm) e rd (a ||| zi) ∧ Gives s (.xori e rd ra imm) e rd (a ^^^ zi)
        ∧ Gives s (.lui e rd imm) e rd (si <<< 16))

/-- R94: quotients and remainders; a divisor of 0 gives 0 and ARITH, the overflowing quotient gives itself and ARITH. -/
def Obligations.DivisionResultsAndArithFlag : Prop :=
  ∀ (s : State) (e : EngId) (tk : TaskId) (l : Nat) (rd ra rb : Reg), Issues s e tk l →
    let a := wGet s e ra
    let b := wGet s e rb
    let a32 : Word := a.setWidth 32
    let b32 : Word := b.setWidth 32
    let z := decide (b = 0)
    let z32 := decide (b32 = 0)
    GivesFlag s (.div e rd ra rb) e tk rd (if z then 0 else BitVec.ofInt 64 (Int.tdiv a.toInt b.toInt)) tfArith
        (z || decide (a.toInt = -2 ^ 63 ∧ b.toInt = -1))
      ∧ GivesFlag s (.divw e rd ra rb) e tk rd
        (if z32 then 0 else (BitVec.ofInt 32 (Int.tdiv a32.toInt b32.toInt)).signExtend 64) tfArith
        (z32 || decide (a32.toInt = -2 ^ 31 ∧ b32.toInt = -1))
      ∧ GivesFlag s (.divu e rd ra rb) e tk rd (if z then 0 else BitVec.ofNat 64 (a.toNat / b.toNat)) tfArith z
      ∧ GivesFlag s (.divuw e rd ra rb) e tk rd (if z32 then 0 else BitVec.ofNat 64 (a32.toNat / b32.toNat)) tfArith z32
      ∧ GivesFlag s (.rem e rd ra rb) e tk rd (if z then 0 else BitVec.ofInt 64 (Int.tmod a.toInt b.toInt)) tfArith z
      ∧ GivesFlag s (.remw e rd ra rb) e tk rd (if z32 then 0 else BitVec.ofInt 64 (Int.tmod a32.toInt b32.toInt)) tfArith z32
      ∧ GivesFlag s (.remu e rd ra rb) e tk rd (if z then 0 else BitVec.ofNat 64 (a.toNat % b.toNat)) tfArith z
      ∧ GivesFlag s (.remuw e rd ra rb) e tk rd (if z32 then 0 else BitVec.ofNat 64 (a32.toNat % b32.toNat)) tfArith z32

/-- R95, Table 4-9: the floating-point operations write what the model's IEEE 754 arithmetic gives for the operand bits of
the format; FABS and FNEG act on the sign bit alone, but a NaN result is the canonical quiet NaN; CVT between kinds that Table 4-9 allows, with ARITH (R96). One quiet
NaN operand yields the other operand in FMIN and FMAX; two zeros of opposite sign give −0 and +0; a NaN compares as false. -/
def Obligations.FloatingPointResults : Prop :=
    (∀ (s : State) (e : EngId) (tk : TaskId) (l : Nat) (p : FpFmt) (rd ra rb : Reg) (src dst : CvtKind) (rtz : Bool),
      Issues s e tk l →
      let f := fmtOf p
      let a := (wGet s e ra).toNat % 2 ^ f.width
      let b := (wGet s e rb).toNat % 2 ^ f.width
      let x := fpUnpack f a
      let y := fpUnpack f b
      let v (n : Nat) : Dword := BitVec.ofNat 64 n
      Gives s (.fadd e p rd ra rb) e rd (v (fpAdd f x y)) ∧ Gives s (.fsub e p rd ra rb) e rd (v (fpAdd f x y.negate))
        ∧ Gives s (.fmul e p rd ra rb) e rd (v (fpMul f x y)) ∧ Gives s (.fdiv e p rd ra rb) e rd (v (fpDiv f x y))
        ∧ Gives s (.fsqrt e p rd ra) e rd (v (fpSqrt f x))
        ∧ Gives s (.fmin e p rd ra rb) e rd (v (fpMinMax f false a b)) ∧ Gives s (.fmax e p rd ra rb) e rd (v (fpMinMax f true a b))
        ∧ Gives s (.fabs e p rd ra) e rd (v (if x.isNan then f.qnan else a % 2 ^ (f.width - 1)))
        ∧ Gives s (.fneg e p rd ra) e rd (v (if x.isNan then f.qnan else (a + 2 ^ (f.width - 1)) % 2 ^ f.width))
        ∧ Gives s (.feq e p rd ra rb) e rd (v (fpEq x y).toNat) ∧ Gives s (.flt e p rd ra rb) e rd (v (fpLt x y).toNat)
        ∧ Gives s (.fle e p rd ra rb) e rd (v (fpEq x y || fpLt x y).toNat) ∧ Gives s (.fclass e p rd ra) e rd (v (fpClass f a))
        ∧ (cvtKindsOk src dst = true →
            let r := cvtTo dst (cvtSrc src (wGet s e ra)) rtz
            GivesFlag s (.cvt e src dst rtz rd ra) e tk rd r.1 tfArith r.2))
    ∧
    (∀ (p : FpFmt) (a b : Nat),
      let f := fmtOf p
      a < 2 ^ f.width → b < 2 ^ f.width →
      (∀ q c, fpUnpack f a = .nan q → (∀ q', fpUnpack f b ≠ .nan q') → c = fpMinMax f true a b ∨ c = fpMinMax f true b a
          ∨ c = fpMinMax f false a b ∨ c = fpMinMax f false b a → c = b)
        ∧ fpMinMax f false 0 f.signBit = f.signBit ∧ fpMinMax f false f.signBit 0 = f.signBit
        ∧ fpMinMax f true 0 f.signBit = 0 ∧ fpMinMax f true f.signBit 0 = 0
        ∧ (∀ q, fpUnpack f a = .nan q →
            fpEq (fpUnpack f a) (fpUnpack f b) = false ∧ fpLt (fpUnpack f a) (fpUnpack f b) = false
              ∧ fpEq (fpUnpack f b) (fpUnpack f a) = false ∧ fpLt (fpUnpack f b) (fpUnpack f a) = false))

/-- Table 4-8, R82: a load writes the bytes of memory at Wa + sext(IMM16), little-endian, extended as its name says, when the
access raises no fault. -/
def Obligations.LoadsWriteMemoryBytesExtended : Prop :=
  ∀ (s : State) (e : EngId) (tk : TaskId) (l : Nat) (rd ra : Reg) (imm : Half), Issues s e tk l →
    let a := memAddr s e ra imm
    let v (n : Nat) : Nat := ofLe (memRead s e a n)
    (loadFault s e a 1 = none → Gives s (.lb e rd ra imm) e rd ((BitVec.ofNat 8 (v 1)).signExtend 64)
        ∧ Gives s (.lbu e rd ra imm) e rd (BitVec.ofNat 64 (v 1)))
      ∧ (loadFault s e a 2 = none → Gives s (.lh e rd ra imm) e rd ((BitVec.ofNat 16 (v 2)).signExtend 64)
        ∧ Gives s (.lhu e rd ra imm) e rd (BitVec.ofNat 64 (v 2)))
      ∧ (loadFault s e a 4 = none → Gives s (.lw e rd ra imm) e rd ((BitVec.ofNat 32 (v 4)).signExtend 64)
        ∧ Gives s (.lwu e rd ra imm) e rd (BitVec.ofNat 64 (v 4)))
      ∧ (loadFault s e a 8 = none → Gives s (.ld e rd ra imm) e rd (BitVec.ofNat 64 (v 8)))

/-- R81, R84: alignment is checked before the address map, the map before a failed LOCAL word. -/
def Obligations.MemoryAccessFaultsInOrder : Prop :=
  ∀ (s : State) (e : EngId) (tk : TaskId) (l : Nat) (rd ra : Reg) (imm : Half), Issues s e tk l →
    let a := memAddr s e ra imm
    let w := instrWord s e
    let loads : List (Instr × Nat) :=
      [(.lb e rd ra imm, 1), (.lbu e rd ra imm, 1), (.lh e rd ra imm, 2), (.lhu e rd ra imm, 2), (.lw e rd ra imm, 4),
        (.lwu e rd ra imm, 4), (.ld e rd ra imm, 8)]
    let stores : List (Instr × Nat) := [(.sb e rd ra imm, 1), (.sh e rd ra imm, 2), (.sw e rd ra imm, 4), (.sd e rd ra imm, 8)]
    (∀ p ∈ loads ++ stores, a % p.2 ≠ 0 → Faults s p.1 e tk fcAlign w a)
      ∧ (∀ p ∈ loads ++ stores, a % p.2 = 0 → memPlace e a = .unmapped → Faults s p.1 e tk fcBus w a)
      ∧ (∀ p ∈ loads, a % p.2 = 0 → memPlace e a = .local_ → a / 8 ∈ (s.engine e).eccWords → Faults s p.1 e tk fcEcc w a)
      ∧ (∀ p ∈ stores, a % p.2 = 0 → memPlace e a = .safeIn → Faults s p.1 e tk fcBus w a)

/-- Table 4-8, R81, R83, R84: a store to LOCAL or SHARED writes the low bytes of Wd, least significant first, at the address; a
store of a whole LOCAL word clears its failed mark; every other byte that any engine can read stays. R252, R253, Table 10-1: SA and SB
change each byte of SAFE_OUT only where the safety parameter set names the running task for that byte's pair or connection. -/
def Obligations.StoresWriteExactlyTheirBytes : Prop :=
    (∀ (s : State) (e : EngId) (tk : TaskId) (l : Nat) (rd ra : Reg) (imm : Half), Issues s e tk l →
      let a := memAddr s e ra imm
      memPlace e a ≠ .safeOut →
      ∀ p ∈ [(Instr.sb e rd ra imm, 1), (Instr.sh e rd ra imm, 2), (Instr.sw e rd ra imm, 4), (Instr.sd e rd ra imm, 8)],
        storeFault e a p.2 = none →
        ∃ t, exec p.1 s = .next t ∧ (∀ r, wGet t e r = wGet s e r) ∧ pcOf t e = pcOf s e + 4
          ∧ { t.engine e with pc := (s.engine e).pc, local_ := (s.engine e).local_, eccWords := (s.engine e).eccWords } = s.engine e
          ∧ (∀ f : Nat, f ≠ e.val → t.engine f = s.engine f)
          ∧ (∀ k < p.2, memRead t e (a + k) 1 = [(wGet s e rd).extractLsb' (8 * k) 8])
          ∧ (∀ (f : EngId) (x : Nat), ¬(a ≤ x ∧ x < a + p.2 ∧ (f = e ∨ memPlace e a = .shared)) → memRead t f x 1 = memRead s f x 1)
          ∧ (p.2 = 8 → memPlace e a = .local_ → a / 8 ∉ (t.engine e).eccWords)
          ∧ { t with engines := s.engines, shared := s.shared } = s)
    ∧
    (∀ (s : State) (e : EngId) (tk : TaskId) (l : Nat) (rd ra : Reg) (imm : Half), Issues s e tk l → e.val = 24 →
      let a := memAddr s e ra imm
      ∀ p ∈ [(Instr.sb e rd ra imm, 1), (Instr.sh e rd ra imm, 2), (Instr.sw e rd ra imm, 4), (Instr.sd e rd ra imm, 8)],
        storeFault e a p.2 = none → memPlace e a = .safeOut →
        ∃ t, exec p.1 s = .next t ∧ Passes s t e ∧ { t with engines := s.engines, safe := { t.safe with safeOut := s.safe.safeOut } } = s
          ∧ ∀ x, memRead t e x 1 = if a ≤ x ∧ x < a + p.2 ∧ safeOutTask s (x - 0x410000) = some tk.val
              then [(wGet s e rd).extractLsb' (8 * (x - a)) 8] else memRead s e x 1)

/-- R81, R83, Table 4-8: an AMO in SHARED reads the old word, sign-extended, into Wd and writes the sum or Wb; every other byte
of SHARED stays. Outside SHARED it faults; SA and SB do not execute it. -/
def Obligations.AtomicOperationsExchangeOneSharedWord : Prop :=
  ∀ (s : State) (e : EngId) (tk : TaskId) (l : Nat) (rd ra rb : Reg), Issues s e tk l →
    let a := (wGet s e ra).toNat
    let b := (wGet s e rb).toNat
    let o := a - 0x1000000
    let old (n : Nat) : Nat := ofLe (readBytes s.shared o n)
    let w := instrWord s e
    let amos : List (Instr × Nat × Nat) :=
      [(.amoaddW e rd ra rb, 4, (old 4 + b) % 2 ^ 32), (.amoaddD e rd ra rb, 8, (old 8 + b) % 2 ^ 64),
        (.amoswapW e rd ra rb, 4, b % 2 ^ 32), (.amoswapD e rd ra rb, 8, b)]
    ∀ p ∈ amos,
      let n := p.2.1
      (e.val ≠ 24 → a % n = 0 → memPlace e a = .shared →
          ∃ t, exec p.1 s = .next t ∧ Writes s t e rd ((BitVec.ofNat (8 * n) (old n)).signExtend 64)
            ∧ ofLe (readBytes t.shared o n) = p.2.2
            ∧ (∀ x, ¬(o ≤ x ∧ x < o + n) → readByte t.shared x = readByte s.shared x)
            ∧ { t with engines := s.engines, shared := s.shared } = s)
        ∧ (e.val ≠ 24 → a % n ≠ 0 → Faults s p.1 e tk fcAlign w a)
        ∧ (e.val ≠ 24 → a % n = 0 → memPlace e a ≠ .shared → Faults s p.1 e tk fcBus w a)
        ∧ (e.val = 24 → Faults s p.1 e tk fcIllegal w 0)

/-- Table 4-8, R81: a branch is taken when its condition holds; a target that is misaligned or outside the instruction SRAM
faults, ALIGN before BUS; JAL and JALR write the return address only when the jump is made. That the fault is the jump's own, with its
PC and word, is the model's reading (log 27). -/
def Obligations.BranchesAndJumpsSetPc : Prop :=
  ∀ (s : State) (e : EngId) (tk : TaskId) (l : Nat) (rd ra rb : Reg) (off imm : Half) (off26 : BitVec 26), Issues s e tk l →
    let a := wGet s e ra
    let b := wGet s e rb
    let pc := pcOf s e
    let limit := if e.val = 24 then 0x20000 else 0x40000
    let ok (x : Dword) : Bool := decide (x.toNat % 4 = 0 ∧ x.toNat < limit)
    let br := pc + 4 * off.signExtend 64
    let jt := pc + 4 * off26.signExtend 64
    let jr := a + imm.signExtend 64
    let jump (i : Instr) (x : Dword) (rd' : Reg) (v : Dword) : Prop :=
      (ok x = true → ∃ t, exec i s = .next t ∧ pcOf t e = x ∧ wGet t e rd' = (if rd' = 0 then 0 else v)
          ∧ (∀ r, r ≠ rd' → wGet t e r = wGet s e r) ∧ (∀ f : Nat, f ≠ e.val → t.engine f = s.engine f)
          ∧ { t with engines := s.engines } = s)
        ∧ (x.toNat % 4 ≠ 0 → Faults s i e tk fcAlign (instrWord s e) x.toNat)
        ∧ (x.toNat % 4 = 0 → limit ≤ x.toNat → Faults s i e tk fcBus (instrWord s e) x.toNat)
    let branch (i : Instr) (c : Bool) : Prop := (c = true → jump i br 0 0) ∧ (c = false → Gives s i e 0 0)
    branch (.beq e ra rb off) (decide (a = b)) ∧ branch (.bne e ra rb off) (decide (a ≠ b))
      ∧ branch (.blt e ra rb off) (decide (a.toInt < b.toInt)) ∧ branch (.bge e ra rb off) (decide (b.toInt ≤ a.toInt))
      ∧ branch (.bltu e ra rb off) (decide (a.toNat < b.toNat)) ∧ branch (.bgeu e ra rb off) (decide (b.toNat ≤ a.toNat))
      ∧ jump (.j e off26) jt 0 0 ∧ jump (.jal e off26) jt 31 (pc + 4) ∧ jump (.jalr e rd ra imm) jr rd (pc + 4)

/-- R108: ENTI reads the descriptor of an instance that its task owns and this engine may use, and faults otherwise; when RD
names W30 it receives FRAME_ADDR. R87, R109, R92: END queues the Lesson's marker behind its stores and the engine waits; TRAP and an
illegal word stop the task with FAULT, leaving registers and memory, and record the first cause and engine. -/
def Obligations.EntiEndAndTraps : Prop :=
    (∀ (s : State) (e : EngId) (tk : TaskId) (l : Nat) (rd ra : Reg) (imm : Half), Issues s e tk l →
      let n := (wGet s e ra + imm.setWidth 64).toNat
      let d : DescCfg := s.run.descs.getD n {}
      let good := decide (n < 65536) && d.flags.getLsbD 1 && decide (d.owner.toNat = tk.val) && (decide (d.home = 0xFF) || decide (d.home.toNat = e.val))
      (e.val ≠ 24 → good = true → ∃ t, exec (.enti e rd ra imm) s = .next t ∧ wGet t e 30 = d.addr.setWidth 64
          ∧ (rd ≠ 0 → rd ≠ 30 → wGet t e rd = d.size.setWidth 64) ∧ (∀ r, r ≠ rd → r ≠ 30 → wGet t e r = wGet s e r)
          ∧ StepsOn s t e ∧ { t with engines := s.engines } = s)
        ∧ (e.val ≠ 24 → good = false → Faults s (.enti e rd ra imm) e tk fcInstance (instrWord s e) n)
        ∧ (e.val = 24 → Faults s (.enti e rd ra imm) e tk fcIllegal (instrWord s e) 0))
    ∧
    (∀ (s : State) (e : EngId) (tk : TaskId) (l : Nat) (imm : Half) (word : Word), Issues s e tk l →
      let q := engQueue e
      ((queueOf s q).length < 128 → ∃ t, exec (.endLesson e) s = .next t
          ∧ queueOf t q = queueOf s q ++ [.marker tk l] ∧ (t.engine e).run = .ended tk l
          ∧ tget .waiting (t.task tk).lessons l = .ended
          ∧ (∀ r, wGet t e r = wGet s e r) ∧ t.shared = s.shared ∧ (∀ f : Nat, f ≠ e.val → t.engine f = s.engine f)
          ∧ (∀ u : Nat, u ≠ tk.val → t.task u = s.task u))
        ∧ (128 ≤ (queueOf s q).length → ∃ t, exec (.endLesson e) s = .next t
          ∧ queueOf t q = queueOf (takeOne q s) q ++ [.marker tk l] ∧ (t.engine e).run = .ended tk l)
        ∧ ∀ i ∈ [(Instr.trap e imm, fcTrap), (Instr.illegal e word, fcIllegal)], (s.tcfg tk).kind ≠ 0 → standby s = false →
          (i.2 = fcIllegal → legalWord word = false) →
            ∃ t, exec i.1 s = .next t ∧ (t.task tk).st = .fault ∧ (t.task tk).cause = 2
              ∧ (t.engine e).run = .free ∧ (∀ r, wGet t e r = wGet s e r) ∧ (t.engine e).local_ = (s.engine e).local_
              ∧ t.shared = s.shared
              ∧ (t.task tk).fault = (if (s.task tk).fault &&& 0xF000 = 0
                  then ((s.task tk).fault &&& 0xFFFF007F) ||| natAt 12 i.2 ||| natAt 7 e.val else (s.task tk).fault)
              ∧ (∀ u : Nat, u ≠ tk.val → (t.task u).st = (s.task u).st))

/-- Table 4-10, R97, R98, R106: the SYS group and the image reads. In a module that is no standby, CLKRD, TBRD and LDQT read
the module's own clock, timebase and live output image; a word without a routing entry reads 0 with QUAL BAD and sets IMAGE. R285,
Table 11-14: in a standby the task's i-th read of a kind takes the i-th value of the stream, and the engine waits for it. -/
def Obligations.SystemAndImageReads : Prop :=
    (∀ (s : State) (e : EngId) (tk : TaskId) (l : Nat) (rd ra : Reg) (imm : Half), Issues s e tk l →
      let n := (wGet s e ra + imm.setWidth 64).toNat
      let inSet := decide (n < 32768) && (routeOf s.run false n).isSome
      let outSet := decide (n < 32768) && (routeOf s.run true n).isSome
      let w : ImgWord := if inSet then tget {} (s.task tk).snap n else ⟨0, 3⟩
      let q : ImgWord := if outSet then s.qwGet n else ⟨0, 3⟩
      let both (x : ImgWord) : Dword := (x.tag.setWidth 64 <<< 32) ||| x.data.setWidth 64
      Gives s (.actrd e rd) e rd ((s.task tk).actCnt.setWidth 64) ∧ Gives s (.genrd e rd) e rd (s.gen.setWidth 64)
        ∧ Gives s (.fltrd e rd) e rd (((s.task tk).fault &&& 7).setWidth 64)
        ∧ Gives s (.idrd e rd) e rd (BitVec.ofNat 64 (tk.val + e.val * 2 ^ 8 + l % 65536 * 2 ^ 16))
        ∧ GivesFlag s (.ldi e rd ra imm) e tk rd (w.data.setWidth 64) tfImage (!inSet)
        ∧ GivesFlag s (.ldit e rd ra imm) e tk rd (both w) tfImage (!inSet)
        ∧ (standby s = false →
            GivesStreamed s (.clkrd e rd) e rd (clkWord s.rtc)
              ∧ GivesStreamed s (.tbrd e rd) e rd (BitVec.ofNat 64 (if e.val = 24 then (s.now - s.safe.tbBase) / 1000 else min (s.now / 1000) (2 ^ 64 - 1)))
              ∧ (e.val ≠ 24 → outSet = true → GivesStreamed s (.ldqt e rd ra imm) e rd (both q))
              ∧ (e.val ≠ 24 → streaming s = false → GivesFlag s (.ldqt e rd ra imm) e tk rd (both q) tfImage (!outSet)))
        ∧ (e.val = 24 → Faults s (.ldqt e rd ra imm) e tk fcIllegal (instrWord s e) 0))
    ∧
    (∀ (s : State) (e : EngId) (tk : TaskId) (l : Nat) (rd : Reg), Issues s e tk l → standby s = true →
      let k := if e.val = 24 then 0xFFFF else l
      ∀ p ∈ [(Instr.tbrd e rd, 4), (Instr.clkrd e rd, 5)],
        (streamRead s tk p.2 k (readIndex s tk p.2 k) = none → exec p.1 s = .next s)
          ∧ (∀ v, streamRead s tk p.2 k (readIndex s tk p.2 k) = some v →
              ∃ t, exec p.1 s = .next t ∧ Writes s t e rd v ∧ readIndex t tk p.2 k = readIndex s tk p.2 k + 1
                ∧ { t with engines := s.engines, red := s.red } = s))

/-- R99–R102: STQ, STQT, STBB and STBBM place their entry in the engine's queue with ORIGIN 3 (4 on SA and SB); an index
outside the image or the Blackboard is discarded and sets IMAGE. A Lesson reads back the Blackboard bits that it has stored, whatever
else stands in its queue. -/
def Obligations.ImageAndBlackboardStoresQueueEntries : Prop :=
    (∀ (s : State) (e : EngId) (tk : TaskId) (l : Nat) (rd ra rb : Reg) (imm : Half), Issues s e tk l →
      let n := (wGet s e ra + imm.setWidth 64).toNat
      let m := (wGet s e ra).toNat
      let d := wGet s e rd
      let origin : Word := if e.val = 24 then 0x40000000 else 0x30000000
      let tag : Word := origin ||| boolBit 5 (d.getLsbD 37) ||| boolBit 4 (d.getLsbD 36) ||| (d.extractLsb' 32 2).setWidth 32
      let bw := (s.tcfg tk).bbWords.toNat
      (n < 32768 → Queues s (.stq e rd ra imm) e (.qw tk n (d.setWidth 32) origin)
          ∧ Queues s (.stqt e rd ra imm) e (.qw tk n (d.setWidth 32) tag))
        ∧ (32768 ≤ n → GivesFlag s (.stq e rd ra imm) e tk 0 0 tfImage true ∧ GivesFlag s (.stqt e rd ra imm) e tk 0 0 tfImage true)
        ∧ (e.val ≠ 24 → n < bw → Queues s (.stbb e rd ra imm) e (.bb tk n (d.setWidth 32) 0xFFFFFFFF))
        ∧ (e.val ≠ 24 → bw ≤ n → GivesFlag s (.stbb e rd ra imm) e tk 0 0 tfImage true)
        ∧ (e.val ≠ 24 → m < bw → Queues s (.stbbm e rd ra rb) e (.bb tk m (d.setWidth 32) ((wGet s e rb).setWidth 32)))
        ∧ (e.val ≠ 24 → bw ≤ m → GivesFlag s (.stbbm e rd ra rb) e tk 0 0 tfImage true)
        ∧ (e.val = 24 → Faults s (.stbb e rd ra imm) e tk fcIllegal (instrWord s e) 0
            ∧ Faults s (.stbbm e rd ra rb) e tk fcIllegal (instrWord s e) 0))
    ∧
    (∀ (s : State) (e : EngId) (tk : TaskId) (l : Nat) (rd ra rx ry : Reg) (imm : Half), Issues s e tk l →
      let n := (wGet s e ra + imm.setWidth 64).toNat
      let bw := (s.tcfg tk).bbWords.toNat
      (e.val = 24 → Faults s (.ldbb e rx ra imm) e tk fcIllegal (instrWord s e) 0)
      ∧ (e.val ≠ 24 → bw ≤ n → ∃ t, exec (.ldbb e rx ra imm) s = .next t ∧ StepsOn s t e ∧ wGet t e rx = 0
          ∧ (t.task tk).fault = ((drainEngine e s).task tk).fault ||| boolBit tfImage true)
      ∧ (e.val ≠ 24 → n < bw → rx ≠ 0 → fetchFault (setPc e (pcOf s e + 4) s) e = none →
      (∃ t, exec (.ldbb e rx ra imm) s = .next t ∧ StepsOn s t e
          ∧ wGet t e rx = (tget (0 : Word) ((drainEngine e s).task tk).bb n).setWidth 64)
        ∧ ∃ t u, exec (.stbb e rd ra imm) s = .next t ∧ exec (.ldbb e ry ra imm) t = .next u
          ∧ (ry ≠ 0 → wGet u e ry = ((wGet s e rd).setWidth 32).setWidth 64)))

/-- R103–R105: TRD and TRP read the running task's own timer, TIN, TRST and TPT write it; another task's timer, a number at or
above 8,192, a timer that the fabric drives (TIN, TRST) or a preset above 48 bits has no effect but the TIMER flag. -/
def Obligations.TimerInstructionsReachTheTasksOwnTimers : Prop :=
  ∀ (s : State) (e : EngId) (tk : TaskId) (l : Nat) (rd ra : Reg) (imm : Half), Issues s e tk l →
    let n := (wGet s e ra + imm.setWidth 64).toNat
    let x := s.timer n
    let own := decide (n < 8192) && x.used && decide (x.owner.toNat = tk.val)
    let d := wGet s e rd
    let sets (i : Instr) (y : TimerSt) : Prop :=
      ∃ t, exec i s = .next t ∧ Passes s t e ∧ t.timer n = y ∧ (∀ k : Nat, k ≠ n → t.timer k = s.timer k)
        ∧ { t with engines := s.engines, timers := s.timers } = s
    (e.val = 24 → ∀ i ∈ [Instr.trd e rd ra imm, .trp e rd ra imm, .tin e rd ra imm, .trst e rd ra imm, .tpt e rd ra imm],
        Faults s i e tk fcIllegal (instrWord s e) 0)
    ∧ (e.val ≠ 24 →
      (own = true → standby s = false →
        GivesStreamed s (.trd e rd ra imm) e rd (timerWord x) ∧ GivesStreamed s (.trp e rd ra imm) e rd (x.preset.setWidth 64))
      ∧ (own = false → GivesFlag s (.trd e rd ra imm) e tk rd 0 tfTimer true ∧ GivesFlag s (.trp e rd ra imm) e tk rd 0 tfTimer true)
      ∧ (own = true → x.fabric = false → sets (.tin e rd ra imm) (timerEdge x (some (d.getLsbD 0)) none)
          ∧ sets (.trst e rd ra imm) (timerEdge x none (some (d.getLsbD 0))))
      ∧ (own = false ∨ x.fabric = true →
          GivesFlag s (.tin e rd ra imm) e tk 0 0 tfTimer true ∧ GivesFlag s (.trst e rd ra imm) e tk 0 0 tfTimer true)
      ∧ (own = true → d.toNat < 2 ^ 48 → sets (.tpt e rd ra imm) (timerPreset x (d.setWidth 48)))
      ∧ (own = false ∨ 2 ^ 48 ≤ d.toNat → GivesFlag s (.tpt e rd ra imm) e tk 0 0 tfTimer true))

/-- Table 3-5, R105, R405: what a timer shows after an edge or a tick, by kind; a preset of 0; saturation. TIMER_EXPIRY and
TIMER_SATURATION: a running timer reaches its preset, or 2^48 − 1 µs; no other timer and nothing else changes. -/
def Obligations.TimersFollowTheirKind : Prop :=
    (∀ (x : TimerSt),
      -- TON: a rising IN starts from 0, a falling IN clears; Q once the preset is reached.
      (x.kind = 0 → x.rst = false → x.inp = false →
          (timerEdge x (some true) none).elapsed = 0 ∧ (timerEdge x (some true) none).run = true
            ∧ (timerEdge x (some true) none).q = decide (x.preset = 0))
        ∧ (x.kind = 0 → x.rst = false → x.inp = true →
          (timerEdge x (some false) none).elapsed = 0 ∧ (timerEdge x (some false) none).q = false)
        -- TOF: Q with IN, and after a falling IN until the preset.
        ∧ (x.kind = 1 → x.rst = false → x.inp = true →
          (timerEdge x (some false) none).run = true ∧ (timerEdge x (some false) none).q = decide (x.preset ≠ 0))
        -- TP: a rising IN starts a pulse; a preset of 0 gives none.
        ∧ (x.kind = 2 → x.rst = false → x.inp = false → x.run = false →
          (timerEdge x (some true) none).q = decide (x.preset ≠ 0))
        -- RTO keeps its elapsed time when IN falls.
        ∧ (x.kind = 3 → x.rst = false → x.inp = true → (timerEdge x (some false) none).elapsed = x.elapsed)
        -- A reset clears any kind.
        ∧ ((timerEdge x none (some true)).elapsed = 0 ∧ (timerEdge x none (some true)).run = false
          ∧ (timerEdge x none (some true)).sat = false)
        -- A tick counts one µs while timing, and stops at 2^48 − 1.
        ∧ (x.run = true → x.kind ≠ 2 → x.elapsed.toNat < 2 ^ 48 - 1 → (timerTick x).elapsed = x.elapsed + 1)
        ∧ (x.run = true → x.kind ≠ 2 → x.elapsed = BitVec.allOnes 48 →
          (timerTick x).elapsed = BitVec.allOnes 48 ∧ (timerTick x).sat = true)
        ∧ (x.run = false → timerTick x = x))
    ∧
    (∀ (s : State) (n : Fin 8192),
      let x := s.timer n
      x.run = true →
        (x.elapsed.toNat < x.preset.toNat → x.rst = false →
          ∃ t, exec (.timerExpiry n) s = .next t ∧ (∀ k : Nat, k ≠ n.val → t.timer k = s.timer k)
            ∧ { t with timers := s.timers } = s
            ∧ (x.kind = 0 → x.inp = true → (t.timer n).q = true ∧ (t.timer n).elapsed = x.preset)
            ∧ (x.kind = 1 → x.inp = false → (t.timer n).q = false)
            ∧ (x.kind = 2 → (t.timer n).q = false ∧ (t.timer n).run = false)
            ∧ (x.kind = 3 → (t.timer n).q = true)
            ∧ (x.preset = BitVec.allOnes 48 → (t.timer n).sat = true))
          ∧ ∃ t, exec (.timerSaturation n) s = .next t ∧ (∀ k : Nat, k ≠ n.val → t.timer k = s.timer k)
            ∧ { t with timers := s.timers } = s ∧ (t.timer n).sat = true
            ∧ (x.kind ≠ 2 → (t.timer n).elapsed = BitVec.allOnes 48))

/-- R84: between Lessons a page with a failed instruction word is loaded again from the image and its marks go; a scrub of a main
engine marks the failed 64-bit words that it finds; a fused-off safety engine is not scrubbed (R3). R54–R57: a scrub pass counts one pass in
every region; a word of which one bit stands upset is corrected and counted, whether or not the operand names it; two upset bits of a
word, or a double error that is named, put the region in fault with its place; words that a load is writing are not checked. -/
def Obligations.MemoriesAndPlanesAreScrubbed : Prop :=
    (∀ (s : State) (e : EngId), s.up = true →
      (∀ (page : Fin 256) (bad : Nat), (s.engine e).run = .free → bad ∈ (s.engine e).eccInstr → bad / 128 = page.val →
          ∃ t, exec (.isramReload e page) s = .next t
            ∧ (∀ w, w ∈ (t.engine e).eccInstr ↔ w ∈ (s.engine e).eccInstr ∧ w / 128 ≠ page.val)
            ∧ (∀ k < 1024, readByte (t.engine e).iram (1024 * page.val + k) = readByte (chunksOf s.run.code e) (1024 * page.val + k))
            ∧ (∀ x, ¬(1024 * page.val ≤ x ∧ x < 1024 * page.val + 1024) → readByte (t.engine e).iram x = readByte (s.engine e).iram x)
            ∧ { t.engine e with iram := (s.engine e).iram, eccInstr := (s.engine e).eccInstr } = s.engine e
            ∧ (∀ f : Nat, f ≠ e.val → t.engine f = s.engine f) ∧ { t with engines := s.engines } = s)
        ∧ (e.val ≠ 24 → ∀ (n : Nat) (ws ps : List Nat),
          ∃ t, exec (.engineScrub e n ws ps) s = .next t
            ∧ (∀ w, w ∈ (t.engine e).eccWords ↔ w ∈ (s.engine e).eccWords ∨ w ∈ ws)
            ∧ (∀ p, p ∈ (t.engine e).eccInstr ↔ p ∈ (s.engine e).eccInstr ∨ p ∈ ps)
            ∧ (t.engine e).w = (s.engine e).w ∧ (t.engine e).local_ = (s.engine e).local_ ∧ (t.engine e).iram = (s.engine e).iram
            ∧ (∀ f : Nat, f ≠ e.val → t.engine f = s.engine f) ∧ { t with engines := s.engines, diary := s.diary } = s)
        ∧ (e.val = 24 → s.variant.safety = false → ∀ (n : Nat) (ws ps : List Nat), exec (.engineScrub e n ws ps) s = .next s))
    ∧
    (∀ (s : State) (e : ScrubErr), s.up = true → (∀ k : RegionId, k ≠ e.region → (s.region k).flips = []) →
      (∀ b ∈ (s.region e.region).flips, sameWord e b = true) →
      let r := e.region.val
      let x := s.region r
      let found (errs : List ScrubErr) : Prop := errs = [e] ∨ (errs = [] ∧ x.flips ≠ [])
      (x.flips = [] → ∃ u, exec (.scrubPass []) s = .next u
          ∧ (∀ k : RegionId, (u.region k).scrubPass = (s.region k).scrubPass + 1
              ∧ (u.region k).bits = (s.region k).bits ∧ (u.region k).p0 = (s.region k).p0 ∧ (u.region k).p1 = (s.region k).p1)
          ∧ { u with regions := s.regions, diary := s.diary } = s)
        ∧ (∀ errs, found errs → scrubSkips s e = false → e.double = false → x.flips.length ≤ 1 →
          ∃ u, exec (.scrubPass errs) s = .next u ∧ (u.region r).scrubCorr = satInc x.scrubCorr ∧ (u.region r).scrubPass = x.scrubPass + 1
            ∧ (u.region r).st = x.st ∧ (u.region r).flips = []
            ∧ (x.flips = [] → (u.region r).p0 = x.p0 ∧ (u.region r).p1 = x.p1)
            ∧ ∀ b, x.flips = [b] →
                (u.region r).p0 = (if b.plane1 then x.p0 else x.p0.flip b) ∧ (u.region r).p1 = (if b.plane1 then x.p1.flip b else x.p1))
        ∧ (∀ errs, found errs → scrubSkips s e = false → (errs = [e] ∧ e.double = true) ∨ 2 ≤ x.flips.length → x.fault = 0 → s.red.st = .single →
          ∃ u, exec (.scrubPass errs) s = .next u ∧ (u.region r).st = .fault ∧ (u.region r).fault = scrubFault e)
        ∧ (∀ errs, found errs → scrubSkips s e = true →
          ∃ u, exec (.scrubPass errs) s = .next u ∧ (u.region r).scrubCorr = x.scrubCorr ∧ (u.region r).scrubPass = x.scrubPass + 1
            ∧ (u.region r).st = x.st ∧ (u.region r).p0 = x.p0 ∧ (u.region r).p1 = x.p1))

/-! ### Timetable, collector and fabric (chapters 02, 03, 05) -/

/-- R113, R117, R125, R126: a due time, a whole multiple of PERIOD_US on the timebase, requests the Roll Call of an idle task and is
skipped and counted while an activation is under way; when CONSEC reaches OVERRUN_LIMIT the policy acts once: CONTINUE records,
STOP stops at the end of the activation, SWITCHOVER also asks for a handover. An event that a write has made requests, is held, or is
merged at every event task that names it, and touches no other task. The model's choices: an event at an idle task whose activation is
already requested merges (log 38); of several causes that wait, the first stands (log 21). -/
def Obligations.DueTimesAndEventsRequestActivations : Prop :=
  ∀ (s : State) (t : TaskId), s.running = true → ownTiming s = true →
    let x := s.task t
    let c := s.tcfg t
    let timed := c.kind = 1 ∨ c.kind = 4
    let due := s.tbrd % c.period.toNat = 0 ∧ x.lastDue ≠ some s.tbrd
    let under := x.st = .rollCall ∨ x.st = .running ∨ x.st = .publish
    let late : TaskSt := { x with
      lastDue := some s.tbrd, skipped := satInc x.skipped, consec := satInc x.consec, overran := true
      fault := x.fault ||| boolBit 29 true }
    (timed → due → x.st = .idle → x.wanted = false → Runs (.dueTime t) s (fun u =>
        u.task t = { x with lastDue := some s.tbrd, wanted := true, startNs := s.now, overran := false }
          ∧ (∀ k : Nat, k ≠ t.val → u.task k = s.task k) ∧ { u with tasks := s.tasks } = s))
      ∧ (timed → due → under → c.ovLimit = 0 ∨ satInc x.consec ≠ c.ovLimit ∨ x.consec = c.ovLimit → Runs (.dueTime t) s (fun u =>
          u.task t = late ∧ (∀ k : Nat, k ≠ t.val → u.task k = s.task k) ∧ { u with tasks := s.tasks } = s))
      ∧ (timed → due → under → c.ovLimit ≠ 0 → satInc x.consec = c.ovLimit → x.consec ≠ c.ovLimit →
        let policy := (c.flags >>> 1).toNat % 4
        Runs (.dueTime t) s (fun u =>
          u.task t = (if policy = 1 ∨ policy = 2 then
              { late with fault := x.fault ||| boolBit 29 true ||| boolBit 30 true, stopReq := x.stopReq.or (some 5) } else late)
            ∧ (policy = 2 → s.red.st = .active → partnerReady s = true → s.red.handover = none → u.red.handover = some 2)
            ∧ (policy ≠ 2 ∨ s.red.st = .single → u.red = s.red)
            ∧ (∀ k : Nat, k ≠ t.val → u.task k = s.task k) ∧ RaisesOne s u 0x3003))
      ∧ (¬timed ∨ ¬due → Runs (.dueTime t) s (fun u => u = s))
      ∧ ∀ trig : Word,
        (trig ∈ s.img.events → Runs (.eventArrival trig) s (fun u =>
          (∀ k : TaskId, let y := s.task k; let z := u.task k
              let named := (s.tcfg k).kind = 2 ∧ (s.tcfg k).trigger = trig
              let lives := y.st = .idle ∨ y.st = .rollCall ∨ y.st = .running ∨ y.st = .publish ∨ y.st = .recess
              (¬named ∨ offInRecess s k = true → z = y)
              ∧ (named → y.st = .idle → y.wanted = false → z = { y with wanted := true, startNs := s.now })
              ∧ (named → y.st = .stopped ∨ y.st = .fault ∨ y.st = .unused → z = y)
              ∧ (named → lives → offInRecess s k = false → y.st ≠ .idle → y.wanted = false → y.pending = false → z = { y with pending := true, pendNs := s.now })
              ∧ (named → lives → offInRecess s k = false → (y.wanted = true ∨ (y.st ≠ .idle ∧ y.pending = true)) → z = { y with merged := satInc y.merged }))
            ∧ u.img.events = s.img.events.erase trig
            ∧ { u with tasks := s.tasks, red := s.red, img := { u.img with events := s.img.events } } = s))
        ∧ (trig ∉ s.img.events → Runs (.eventArrival trig) s (fun u => u = s))

/-- R118–R121: the Roll Call latches the grouped words of the task's set at its start and counts the activation; every other word of
the set is copied as it stands when its row is read, at the latest at the end; then the Lessons without predecessors are ready, and a
task without Lessons publishes. -/
def Obligations.RollCallCopiesTheInputSet : Prop :=
  ∀ (s : State) (t : TaskId),
    let x := s.task t
    let set := rollCallSet s t
    let late (u : State) (n : Nat) : Bool := (u.task t).rows.any (fun e => e.2 == n / 16)
    let copied (u : State) : Prop := ∀ n, tget {} (u.task t).snap n
        = if n ∈ set ∧ grouped s n = false ∧ late s n = true then inputOf s n else tget {} x.snap n
    (s.running = true → ownTiming s = true → rollCallNext s t = true → Runs (.rollCall t) s (fun u =>
        (u.task t).st = .rollCall ∧ (u.task t).wanted = false ∧ (u.task t).actCnt = x.actCnt + 1
          ∧ (∀ n, tget {} (u.task t).snap n = if n ∈ set ∧ grouped s n = true then s.iwGet n else {})
          ∧ (∀ n ∈ set, grouped s n = false → late u n = true)
          ∧ (∀ k : Nat, k ≠ t.val → u.task k = s.task k)
          ∧ (∀ r ∈ taskRegions (s.tcfg t), (s.region r).st ≠ .fault → (u.region r).st = .running)
          ∧ { u with tasks := s.tasks, regions := s.regions, red := s.red, stamp := s.stamp } = s))
      ∧ (x.st = .rollCall → (s.tcfg t).kind ≠ 4 → x.lessons = [] → Runs (.rollCallEnd t) s (fun u =>
          copied u ∧ (taskLessons (s.tcfg t) = [] → (u.task t).st = .publish)
            ∧ (∀ l ∈ taskLessons (s.tcfg t), (u.task t).st = .running
              ∧ ((lessonCfg s.run l).preds = [] → tget .waiting (u.task t).lessons l = .ready)
              ∧ ((lessonCfg s.run l).preds ≠ [] → tget .waiting (u.task t).lessons l = .waiting))
            ∧ (∀ k : Nat, k ≠ t.val → u.task k = s.task k)
            ∧ (taskLessons (s.tcfg t) ≠ [] → { u with tasks := s.tasks } = s)))
      ∧ (x.st = .rollCall → (s.tcfg t).kind = 4 → Runs (.rollCallEnd t) s (fun u =>
          copied u ∧ (u.task t).st = .running ∧ (u.task t).rows = []
            ∧ { u.task t with st := .rollCall, snap := x.snap, rows := x.rows, simIn := x.simIn } = x
            ∧ (∀ k : Nat, k ≠ t.val → u.task k = s.task k) ∧ { u with tasks := s.tasks } = s))
      ∧ (x.st ≠ .rollCall → Runs (.rollCallEnd t) s (fun u => u = s))

/-- R85, R86, R121, R142: a ready Lesson starts on its free engine at its ENTRY with W1–W31 zero; when its marker is taken,
the entries in front of it leave the queue with it, the engine is free, and the last Lesson lets the task publish. -/
def Obligations.LessonsStartAndComplete : Prop :=
  ∀ (s : State) (l : Nat),
    let c := lessonCfg s.run l
    let e := c.unit.toNat
    let t := c.task.toNat
    c.kind = 2 → e < 24 → l ≠ 0xFFFF → (s.task t).st = .running →
      ((s.engine e).run = .free → (s.engine e).eccInstr = [] → lessonState s l = .ready → lessonFirst s l = true →
        ∃ u, exec (.lessonStart l) s = .next u ∧ (u.engine e).run = .lesson (Fin.ofNat 32 t) l
          ∧ (u.engine e).pc = c.entry.setWidth 64 ∧ (u.engine e).w = []
          ∧ { u.engine e with w := (s.engine e).w, pc := (s.engine e).pc, run := .free } = s.engine e
          ∧ (∀ f : Nat, f ≠ e → u.engine f = s.engine f) ∧ lessonState u l = .running
          ∧ (∀ k : Nat, k ≠ t → u.task k = s.task k) ∧ { u with engines := s.engines, tasks := s.tasks } = s)
        ∧ (lessonState s l = .ended →
          ∃ u, exec (.lessonComplete l) s = .next u ∧ queueOf u (16 + e) = (splitMarker l (queueOf s (16 + e))).2
            ∧ (u.engine e).run = .free ∧ lessonState u l = .done
            ∧ ((∀ k ∈ taskLessons (s.tcfg t), k ≠ l → tget .waiting (s.task t).lessons k = .done) → (u.task t).st = .publish)
            ∧ (∀ k ∈ taskLessons (s.tcfg t), k ≠ l → tget .waiting (s.task t).lessons k = .waiting →
                (∀ p ∈ (lessonCfg s.run k).preds, p = l ∨ tget .waiting (s.task t).lessons p = .done) →
                tget .waiting (u.task t).lessons k = .ready))

/-- R101, R102, R142: the collector takes an output word of its owner into the task's batch, discards and counts the word of
another task, and applies the masked bits of a Blackboard store and no others. That a discarded STQ or STQT sets
TASK_FAULT.FOREIGN is by R142 and Table 5-6, where R100 says otherwise (log 38). -/
def Obligations.CollectorTakesOwnWordsAndCountsForeignOnes : Prop :=
  ∀ (s : State) (t : TaskId) (n : Nat) (d tag mask : Word) (r : RouteCfg),
    let u := takeEntry false (.qw t n d tag) s
    let v := takeEntry false (.bb t n d mask) s
    let b : Word := tget 0 (s.task t).bb n
    (routeOf s.run true n = some r → r.owner.toNat = t.val → regionDrives s t n = false →
        tget {} (u.task t).batch n = ⟨d, tag⟩ ∧ (∀ k, k ≠ n → tget {} (u.task t).batch k = tget {} (s.task t).batch k)
          ∧ { u.task t with batch := (s.task t).batch } = s.task t)
      ∧ (routeOf s.run true n = none ∨ (∃ q, routeOf s.run true n = some q ∧ (q.owner.toNat ≠ t.val ∨ regionDrives s t n = true)) →
        u.task t = { s.task t with foreign := satInc (s.task t).foreign, fault := (s.task t).fault ||| boolBit 28 true })
      ∧ (n < (s.tcfg t).bbWords.toNat →
        (∀ k < 32, (tget (0 : Word) (v.task t).bb n).getLsbD k = (if mask.getLsbD k then d.getLsbD k else b.getLsbD k))
          ∧ ∀ k, k ≠ n → tget (0 : Word) (v.task t).bb k = tget 0 (s.task t).bb k)
      ∧ (∀ k : Nat, k ≠ t.val → u.task k = s.task k ∧ v.task k = s.task k)
      ∧ { u with tasks := s.tasks } = s ∧ { v with tasks := s.tasks } = s

/-- R122, R129, R131–R133, R139: the seal flip of a task whose batch is on the apply port, with nothing in the reflex lane and no GLIDE
batch waiting, in a module without a partner, makes the whole batch visible: a stored word with its data and a tag of AGE 0, a word
not stored one period older, a forced word with the force value; no other output word changes, and the activation time is taken. A
batch that is not on the port is not applied. -/
def Obligations.SealFlipPublishesTheWholeBatch : Prop :=
  ∀ (s : State) (t : TaskId),
    let x := s.task t
    let rs := ownedRoutes s.run t
    let stored (n : Nat) : Option ImgWord := if tget {} x.batch n = {} then none else some (tget {} x.batch n)
    (s.red.st = .single → s.red.marks = [] → x.st = .publish → (s.tcfg t).kind ≠ 3 → (s.tcfg t).kind ≠ 4 → x.stopReq = none →
      s.img.port = some (.task t.val) → s.img.lane = [] → s.img.glides = [] → s.img.lostWords = none → (rs.map (·.num)).Nodup →
      ∃ u, exec (.sealFlip t) s = .next u ∧ (u.task t).st = .idle ∧ (u.task t).batch = []
        ∧ (u.task t).lastNs = satOf 32 (s.now - x.startNs)
        ∧ (∀ r ∈ rs, let w := u.qwGet r.num; let o := s.qwGet r.num
            match forceFor s true r.num with
            | some f => w.data = f.data ∧ tagForced w.tag = true ∧ tagQual w.tag = 0 ∧ tagHold w.tag = false ∧ tagGlide w.tag = false
            | none => match stored r.num with
              | none => w.data = o.data ∧ tagAge w.tag = satInc (tagAge o.tag) ∧ tagQual w.tag = tagQual o.tag
              | some b => tagAge w.tag = 0 ∧ tagOrigin w.tag = tagOrigin b.tag ∧ tagGroup w.tag = r.group.setWidth 12
                  ∧ tagSim w.tag = x.simIn ∧ tagForced w.tag = false ∧ tagHold w.tag = tagHold b.tag ∧ tagGlide w.tag = tagGlide b.tag
                  ∧ (if r.flags.getLsbD 1 && nanOrInf b.data then w.data = o.data ∧ tagQual w.tag = 3
                     else w.data = b.data ∧ tagQual w.tag = tagQual b.tag))
        ∧ (∀ n, (∀ r ∈ rs, r.num ≠ n) → u.qwGet n = s.qwGet n)
        ∧ { u with
            tasks := s.tasks, regions := s.regions, img := { u.img with qw := s.img.qw, fresh := s.img.fresh, port := s.img.port, portNs := s.img.portNs } } = s)
      ∧ (∀ k : TaskId, k ≠ t → s.img.port = some (.task k.val) → (s.task k).st = .publish → (s.tcfg k).kind ≠ 3 →
          Runs (.sealFlip t) s (fun u => u = s))

/-- R88, R116, R123, R127, R139: the task watchdog stops a task whose activation time has reached WATCHDOG_US, with cause 4 in FAULT,
and discards the activation. The GLIDE batch sets GLIDE on every output word of the task that no force holds, leaving its data: at
once when the apply port has nothing else to serve, else when its turn comes; the port first ends the walk of the batch that the stop
made void. That the batch is applied as soon as the port takes it is the model's choice (log 38). -/
def Obligations.TaskWatchdogStopsAndGlides : Prop :=
  ∀ (s : State) (t : TaskId),
    let x := s.task t
    let c := s.tcfg t
    let walked := s.img.portNs + (4 * ((ownedRoutes s.run t).length + 1) + 2) / 3
    (x.busy = true → x.st ≠ .recess → c.kind ≠ 3 → c.kind ≠ 0 → c.watchdog.toNat * 1000 ≤ s.now - x.startNs → standby s = false →
      ∃ u, exec (.taskWatchdog t) s = .next u ∧ (u.task t).st = .fault ∧ (u.task t).cause = 4
        ∧ (u.task t).fault = x.fault ||| boolBit 31 true ∧ (u.task t).batch = [] ∧ (u.task t).pending = false
        ∧ (∀ k : Nat, k ≠ t.val → u.task k = s.task k)
        ∧ ((∀ k : TaskId, k ≠ t → (s.task k).st ≠ .publish) → s.img.glides = [] → s.img.trelexIn = [] → s.img.hostIn = [] →
            s.img.lostWords = none → s.img.lane = [] → s.img.voidEnd ≤ s.now → (s.img.port = some (.task t.val) → walked ≤ s.now) →
            (∀ r ∈ ownedRoutes s.run t, forceFor s true r.num = none →
              tagGlide (u.qwGet r.num).tag = true ∧ (u.qwGet r.num).data = (s.qwGet r.num).data)
            ∧ (∀ n, (∀ r ∈ ownedRoutes s.run t, r.num ≠ n) → u.qwGet n = s.qwGet n) ∧ u.img.glides = [])
        ∧ (∀ k : TaskId, k ≠ t → s.img.port = some (.task k.val) → (s.task k).st = .publish → (s.tcfg k).kind ≠ 3 →
            u.img.qw = s.img.qw ∧ t.val ∈ u.img.glides)
        ∧ (s.img.port = some (.task t.val) → s.now < walked →
            u.img.qw = s.img.qw ∧ t.val ∈ u.img.glides ∧ u.img.port = none ∧ u.img.voidEnd = walked))
      ∧ (s.now - x.startNs < c.watchdog.toNat * 1000 → Runs (.taskWatchdog t) s (fun u => u = s))

/-- R139, R142, R285, R395: an input batch that is on the apply port is applied whole: a word whose routing entry names the source takes
the value given with GROUP of its entry and AGE 0, from the partner with the tag as carried; another is discarded and counted, and the
host command's result carries both counts. A standby discards what the host writes. -/
def Obligations.InputBatchesApplyWholeAndCount : Prop :=
  ∀ (s : State) (trelex : Bool) (b : InBatch) (rest : List InBatch),
    (if trelex then s.img.trelexIn else s.img.hostIn) = b :: rest → (b.entries.map (·.num)).Nodup →
    (b.cmd = .host → ∀ c, s.mb.busy = some c → c.code = 0x0013) → s.img.lane = [] → s.img.port = some (.input trelex) →
    let good (e : WordEntry) : Bool := (b.origin == 5 || !standby s) && match routeOf s.run false e.num with
      | some r => decide (r.endpoint.setWidth 4 = b.origin)
      | none => false
    let n := (b.entries.filter good).length
    let value (e : WordEntry) : ImgWord :=
      if b.origin = 5 then partnerWord s e.num e.data e.tag else inputWord s e.num e.data b.origin (e.tag.setWidth 2)
    ∃ u, exec (.inputBatchApplied trelex) s = .next u
      ∧ (if trelex then u.img.trelexIn else u.img.hostIn) = rest
      ∧ (∀ e ∈ b.entries, u.iwGet e.num = if good e then value e else s.iwGet e.num)
      ∧ (∀ k, (∀ e ∈ b.entries, e.num ≠ k) → u.iwGet k = s.iwGet k)
      ∧ u.img.foreignExt = satAdd s.img.foreignExt (b.entries.length - n)
      ∧ (∀ c, s.mb.busy = some c → c.code = 0x0013 → b.cmd = .host →
          u.mb.busy = none ∧ u.mb.rstat = 0 ∧ u.mb.rval.take 2 = [natAt 0 n, natAt 0 (b.entries.length - n)])

/-- R18, R71–R75, R115: a trigger word that the hub or the network engine has written starts an idle reflex task's wave on the mirrored
words, or is held or merged, also while a stop of the task waits for the end of its activation; without one nothing starts, and a region in
fault discards it; a lane step is applied whole, with the activation time from the arrival. -/
def Obligations.ReflexTasksStartAndApply : Prop :=
  ∀ (s : State) (t : TaskId),
    let x := s.task t
    let ls := taskLessons (s.tcfg t)
    let arrived (at_ : Nat) : Prop := s.running = true ∧ ownTiming s = true ∧ (s.tcfg t).kind = 3
      ∧ s.img.arrivals.find? (fun e => e.1 == t.val) = some (t.val, at_)
    let sound := regionFaulted s t = false
    let holds := x.st = .running ∨ (x.st = .idle ∧ (x.stopReq ≠ none ∨ recessFirst s t = true)) ∨ (x.st = .recess ∧ offInRecess s t = false)
    let taken (u : State) (at_ : Nat) : Prop := u.img.arrivals = s.img.arrivals.erase (t.val, at_)
    (∀ at_, arrived at_ → sound → x.st = .idle → x.stopReq = none → recessFirst s t = false →
        (∀ r ∈ jointRegions s.run ls, (s.region r).wave = false ∧ (s.region r).st ≠ .fault) → Runs (.reflexArrival t) s (fun u =>
          (u.task t).st = .running ∧ (u.task t).actCnt = x.actCnt + 1 ∧ (u.task t).startNs = at_ ∧ (u.task t).mirror = x.mirror
            ∧ (∀ l ∈ ls, (u.region (lessonRegion s.run l)).wave = true ∧ (u.region (lessonRegion s.run l)).st = .running)
            ∧ (∀ r ∈ jointRegions s.run ls, ∀ e ∈ (s.region r).active.rws, rwKind e.2 = 2 →
                tget (0 : Word) (u.region r).portIw (rwWord e.2) = (tget {} x.mirror (rwWord e.2)).data)
            ∧ (∀ k : Nat, k ≠ t.val → u.task k = s.task k) ∧ taken u at_ ∧ u.img.qw = s.img.qw))
      ∧ (∀ at_, arrived at_ → sound → holds → x.pending = false → Runs (.reflexArrival t) s (fun u =>
          u.task t = { x with pending := true, pendNs := at_ } ∧ (∀ k : Nat, k ≠ t.val → u.task k = s.task k) ∧ taken u at_))
      ∧ (∀ at_, arrived at_ → sound → holds → x.pending = true → Runs (.reflexArrival t) s (fun u =>
          u.task t = { x with merged := satInc x.merged } ∧ (∀ k : Nat, k ≠ t.val → u.task k = s.task k) ∧ taken u at_))
      ∧ (∀ at_, arrived at_ → ¬sound → Runs (.reflexArrival t) s (fun u => u.tasks = s.tasks ∧ u.regions = s.regions ∧ taken u at_))
      ∧ ((∀ e ∈ s.img.arrivals, e.1 ≠ t.val) → Runs (.reflexArrival t) s (fun u => u = s))
      ∧ ∀ (y : LaneStep) (r : List LaneStep), s.img.lane = y :: r → y.task = t → s.red.st = .single → x.stopReq = none → s.img.glides = [] → s.img.lostWords = none →
          ∃ u, exec .reflexLaneApply s = .next u ∧ u.img.lane = r
            ∧ (u.task t).lastNs = satOf 32 (s.now - y.startNs) ∧ u.img.qw = (applyBatch t y.words s).img.qw
            ∧ (∀ k : Nat, k ≠ t.val → u.task k = s.task k)

/-- R66–R68, R78: a wave loads its ports from the snapshot and the Blackboard and runs; at its end edge, without an upset,
every state bit takes what the evaluation by levels gives and the sinks and markers enter the region queues. Table 3-2: what a state
bit takes from table output t, input I5 and its own value; the six-input table. -/
def Obligations.WavesRunToTheirEndEdge : Prop :=
    (∀ (s : State) (l : Nat),
      let c := lessonCfg s.run l
      let t := c.task.toNat
      let ls := jointLessons s.run l
      c.kind = 1 → (s.tcfg t).kind ≠ 3 → t < 32 → (s.task t).st = .running →
        (s.running = true → standby s = false → lessonState s l = .ready →
          (∀ r ∈ jointRegions s.run ls, (s.region r).wave = false ∧ (s.region r).st ≠ .fault) →
          ∃ u, exec (.wave l) s = .next u
            ∧ (∀ k ∈ ls, tget .waiting (u.task t).lessons k = .running ∧ (u.region (lessonRegion s.run k)).wave = true)
            ∧ (∀ r ∈ jointRegions s.run ls, ∀ e ∈ (s.region r).active.rws, rwKind e.2 = 2 →
                tget (0 : Word) (u.region r).portIw (rwWord e.2) = (tget {} (s.task t).snap (rwWord e.2)).data)
            ∧ (∀ r ∈ jointRegions s.run ls, ∀ e ∈ (s.region r).active.rws, rwKind e.2 = 3 →
                tget (0 : Word) (u.region r).portBb (rwBbWord e.2) = tget 0 (s.task t).bb (rwBbWord e.2))
            ∧ (∀ k : Nat, k ≠ t → u.task k = s.task k) ∧ { u with tasks := s.tasks, regions := s.regions, red := s.red } = s)
          ∧ (let rs := waveRegions s l
            let env := waveEnv s rs
            let v := evalWave env (fun _ => true)
            rs ≠ [] → (s.task t).waveStop = false →
            parityErrors env (rs.flatMap (fun r => (s.region r).parity.map (fun e => (r * 8192 + e.1, e.2)))) = [] →
            ∃ u, exec (.waveEnd l ⟨[], []⟩) s = .next u
              ∧ (∀ r ∈ rs, (u.region r).wave = false ∧ (u.region r).bits = regionBits r v.state ∧ (u.region r).parity = regionBits r v.state
                  ∧ tget .waiting (u.task t).lessons (s.region r).waveLesson = .ended
                  ∧ ∃ es, queueOf u r = queueOf s r ++ es ++ [.marker (Fin.ofNat 32 t) (s.region r).waveLesson]
                    ∧ (∀ p ∈ waveOutputs env v r, QEntry.qw (Fin.ofNat 32 t) p.1 p.2 0x20000000 ∈ es))
              ∧ (∀ k : Nat, k ≠ t → u.task k = s.task k)
              ∧ { u with tasks := s.tasks, regions := s.regions, timers := s.timers, img := { u.img with queues := s.img.queues } } = s))
    ∧
    ((∀ t f s : Bool, stateUpdate 0 t f s = s ∧ stateUpdate 1 t f s = (if f then t else s) ∧ stateUpdate 2 t f s = (t || (s && !f))
        ∧ stateUpdate 3 t f s = (!f && (t || s)) ∧ stateUpdate 4 t f s = t)
      ∧ ∀ (env : WaveEnv) (upd : Nat → Bool) (v : WaveVals) (a : Nat) (w : BitVec 128),
        let i (k : Nat) : Bool := cellInput env v a (cellLevel w) (cellSel w k)
        let t := w.getLsbD ((i 0).toNat + 2 * (i 1).toNat + 4 * (i 2).toNat + 8 * (i 3).toNat + 16 * (i 4).toNat + 32 * (i 5).toNat)
        let s := tget false env.old a
        let r := evalCell env upd v a w
        tget false r.tab a = t ∧ tget false r.state a = (if upd a then stateUpdate (cellMode w) t (i 5) s else s)
          ∧ ∀ b, b ≠ a → tget false r.tab b = tget false v.tab b ∧ tget false r.state b = tget false v.state b)

/-! ### Channels (chapters 07, 08) -/

/-- R173, R176, R185, R187, R198, R203, Table 7-9, Table 7-13: a field with a wrong CRC or a CHUNK above 16 is counted and counts as not
received; a valid one loads TIME and starts the watchdog anew; one that comes later than the watchdog time with its tolerance finds the
watchdog expired. A DATA field
is applied by a channel that is READY or beyond: GLIDE or QUAL BAD starts Glide with TRIGGER 1 or 2, HOLD holds, else a digital
output takes bit 0 and AO_I the clamped command. STOP stops, an output by its Glide. CONFIG chunks collect in ascending order
in STOPPED; a complete record is stored, or refused with its mode status. -/
def Obligations.ChannelFieldsReachThePoweredDie : Prop :=
  ∀ (s : State) (c : ChanId),
    let x := s.chan c
    let d := x.die
    let f := x.out
    let live := d.st ≠ .off ∧ d.st ≠ .starting ∧ d.st ≠ .stopped
    let glide := f.tag.getLsbD 5
    let hold := f.tag.getLsbD 4
    let bad := decide (f.tag &&& 3 = 3)
    let timed (y : DieSt) : Prop := y.echo = f.seq ∧ y.time = f.time ∧ y.timeAt = f.at_ ∧ y.wdAt = s.clockNs ∧ y.wdOut = false
      ∧ y.wdMs = (if field d.record 8 4 = 0 then s.run.chanWd.toNat else field d.record 8 4)
    let inTime := f.chunk ≤ 16 ∧ wdLate s d = false
    d.alive = true →
    (∀ p ∈ [(OutKind.data, fun ok => Instr.dataField c ok), (.stop, fun ok => .stopField c ok), (.config, fun ok => .configField c ok)],
        f.kind = p.1 → ∀ ok : Bool, ok = false ∨ 16 < f.chunk →
        Runs (p.2 ok) s (fun t => t.chan c = { x with die := ({ d with crcErrs := satInc d.crcErrs }).settle } ∧ ChanOnly s t c))
      ∧ (f.kind = .data → f.chunk ≤ 16 → wdLate s d = true → d.mode ≠ 0 → Runs (.dataField c true) s (fun t =>
          let y := (t.chan c).die
          y.wdCount = satInc d.wdCount ∧ y.wdAt = s.clockNs ∧ y.wdOut = false ∧ y.has dbWd = false ∧ ChanOnly s t c))
      ∧ (f.kind = .data → inTime → Runs (.dataField c true) s (fun t =>
          let y := (t.chan c).die
          timed y ∧ y.wdCount = d.wdCount ∧ y.forced = f.tag.getLsbD 2 ∧ y.has dbWd = false ∧ ChanOnly s t c
            ∧ (¬live → y.st = d.st ∧ y.applied = d.applied ∧ y.setpoint = d.setpoint ∧ y.phase = d.phase)
            ∧ (live → modeOut d.m = true → (glide || bad) = true → d.gliding = false → d.stopping = false →
                y.st = .gliding ∧ y.trigger = (if glide then 1 else 2))
            ∧ (live → modeOut d.m = true → (glide || bad) = false → hold = true →
                y.st = .holding ∧ y.applied = d.applied ∧ y.setpoint = d.setpoint)
            ∧ (live → modeDigOut d.m = true → (glide || bad || hold) = false → y.st = .running ∧ y.applied = f.data.getLsbD 0)
            ∧ (live → modeAo d.m = true → (glide || bad || hold) = false →
                let v := max 0 (min 24000000 f.data.toInt)
                y.st = .running ∧ y.command = v ∧ y.clamped = decide (v ≠ f.data.toInt)
                  ∧ (d.failing = true → v + 200000 ≤ d.attained → y.failing = false)
                  ∧ (d.failing = false → d.st = .running → d.phase ≠ .resume → y.setpoint = v * 100))))
      ∧ (f.kind = .stop → inTime → Runs (.stopField c true) s (fun t =>
          let y := (t.chan c).die
          timed y ∧ ChanOnly s t c
            ∧ (d.st = .starting ∨ d.st = .stopped → y.st = d.st)
            ∧ (d.st ≠ .starting → d.st ≠ .stopped → d.st = .off ∨ modeOut d.m = false ∨ d.phase = .end_ →
                y.st = .stopped ∧ (modeChanges x = true → y.highZ = true))
            ∧ (live → modeOut d.m = true → d.gliding = false → y.trigger = 4 ∧ (y.st = .gliding ∨ y.st = .stopped))))
      ∧ (f.kind = .config → inTime → d.st = .stopped → Runs (.configField c true) s (fun t =>
          let y := (t.chan c).die
          let b := wordBytes f.data ++ wordBytes f.tag
          timed y ∧ ChanOnly s t c
            ∧ (f.chunk = 0 → y.collect = b ∧ y.chunk = 1 ∧ y.st = .stopped)
            ∧ (f.chunk ≠ 0 → f.chunk ≠ d.chunk → y.collect = [] ∧ y.chunk = 0 ∧ y.record = d.record)
            ∧ (f.chunk ≠ 0 → f.chunk < 16 → f.chunk = d.chunk → y.collect = d.collect ++ b ∧ y.chunk = d.chunk + 1)
            ∧ (f.chunk = 16 → d.chunk = 16 → recordStatus s c d.collect f.data = 0 →
                y.record = d.collect ∧ y.crc = f.data ∧ y.st = .starting ∧ y.stored = true ∧ y.modeStat = 0)
            ∧ (f.chunk = 16 → d.chunk = 16 → recordStatus s c d.collect f.data ≠ 0 →
                y.record = d.record ∧ y.st = .stopped ∧ y.modeStat = recordStatus s c d.collect f.data)
            ∧ (f.chunk = 16 → d.chunk = 16 → crc32c d.collect ≠ f.data → y.modeStat = 2)))

/-- R172–R181, R187, R188, R195–R197, R260: each condition is set and cleared as its rule says in the modes it belongs to; a
condition that becomes set stands in CH_DIAG and CH_DIAG_NOW and sets the CHANNEL interrupt. R190, R192, R193, R195, R200: what a
conversion leaves: the value, saturated, the readback of AO_I as it is, or a filtered one between the last and the new; the loop power
and what the reservoir gives or gains; the compliance supply, moving to its target; LOOP_V within Table 8-1; a flag after its
conversions in a row. What a filter of CH_AFILT gives within the bounds of its series is the model's choice (log 39). -/
def Obligations.ChannelConditionsSetAndClear : Prop :=
    (∀ (s : State) (c : ChanId) (ma : Half) (set : Bool),
      let d := (s.chan c).die
      let dout := modeDigOut d.m = true
      let rows : List (Instr × Prop × (DieSt → Prop)) :=
        [(.currentLimit c ⟨true, ma⟩, dout ∧ d.closed = true, fun y => y.limiting = true ∧ y.value = ma.toNat),
          (.currentLimit c ⟨false, ma⟩, dout, fun y => y.limiting = false),
          (.overload c true, d.has dbOverload = false ∧ (dout ∧ d.limiting = true ∨ ¬dout ∧ sensorSupply d = true),
            fun y => y.has dbOverload = true ∧ y.ovlCount = satInc d.ovlCount),
          (.overload c false, True, fun y => y.has dbOverload = false ∧ y.limiting = false),
          (.overtemp c, dout ∧ d.tripped = false,
            fun y => y.has dbOvertemp = true ∧ y.tripped = true ∧ y.ovlCount = satInc d.ovlCount),
          (.thermalCooldown c, d.tripped = true ∧ recLatch d.record = false, fun y => y.tripped = false ∧ y.has dbOvertemp = false),
          (.thermalCooldown c, d.tripped = true ∧ recLatch d.record = true,
            fun y => y.tripped = true ∧ y.cooled = true ∧ y.has dbOvertemp = d.has dbOvertemp),
          (.openWire c true, dout ∧ recWireCheck d.record = true ∧ (d.closed = true ∨ d.testing = true),
            fun y => y.has dbOpenWire = true),
          (.openWire c false, dout ∧ recWireCheck d.record = true, fun y => y.has dbOpenWire = false),
          (.offStateTest c, dout ∧ recWireCheck d.record = true ∧ d.applied = false, fun y => y.testing = true ∧ y.live = d.live),
          (.namurLineFault c true set, d.m = 3 ∧ recWireCheck d.record = true, fun y => y.has dbShort = set),
          (.namurLineFault c false set, d.m = 3 ∧ recWireCheck d.record = true, fun y => y.has dbOpenWire = set),
          (.mismatch c set, dout ∧ d.limiting = false ∧ d.tripped = false ∧ d.testing = false, fun y => y.has dbMismatch = set),
          (.lplusLow c set, d.mode ≠ 0, fun y => y.has dbLplus = set),
          (.switchTest c set false, d.m = 6 ∧ d.limiting = false ∧ d.tripped = false ∧ d.lockout = false,
            fun y => y.lockout = true ∧ y.lockM = set ∧ y.applied = d.applied ∧ y.closed = false),
          (.switchTest c set true, d.m = 6, fun y => y = d.settle),
          (.channelWatchdog c, wdMay s d = false, fun y => y = d),
          (.channelWatchdog c, d.mode ≠ 0 ∧ d.wdMs ≠ 0 ∧ d.wdOut = false ∧ 980000 * d.wdMs ≤ s.clockNs - d.wdAt,
            fun y => y.has dbWd = true ∧ y.wdCount = satInc d.wdCount ∧ y.wdOut = true
            ∧ (modeOut d.m = true → d.gliding = false → d.st = .ready ∨ d.st = .running ∨ d.st = .holding ∨ d.st = .gliding →
                y.trigger = 3 ∧ y.glideCnt = satInc d.glideCnt)),
          (.outputFault c, modeAo d.m = true ∧ d.failing = false ∧ d.has 10 = true ∧ faultConvs d.record ≤ d.faultRun ∧ d.st ≠ .gliding ∧ d.st ≠ .holding,
            fun y => y.failing = true ∧ y.attained = d.value ∧ y.has 11 = true
              ∧ y.setpoint = (if recFailDir d.record = 2 then d.setpoint else d.value * 100))]
      d.alive = true → ∀ p ∈ rows, p.2.1 → Runs p.1 s (fun t =>
        let y := t.chan c
        p.2.2 y.die ∧ ChanOnly s t c
          ∧ (s.up = true → ∀ b < 12, y.die.has b = true → d.has b = false →
              y.diag.getLsbD b = true ∧ y.now.getLsbD b = true ∧ t.host.irq.getLsbD 5 = true)))
    ∧
    (∀ (s : State) (c : ChanId) (a : AnaIn),
      let d := (s.chan c).die
      let ao := modeAo d.m = true
      let hi : Int := if d.m = 0x12 then 11000000 else 25000000
      let sat (v : Int) : Int := max (-1000000) (min hi v)
      let plain := field d.record 0x34 4 = 0 ∨ d.settled = false
      let off (v : Int) : Bool := decide (20000000 < v * 100 - d.setpoint) || decide (20000000 < d.setpoint - v * 100)
      d.alive = true → d.st ≠ .off → d.st ≠ .starting → (modeAo d.m || modeAnaIn d.m) = true → Runs (.conversion c a) s (fun t =>
        let y := (t.chan c).die
        let p := y.power.toNat
        let asks := loopAsks d a y.value
        let typ := d.supply.toNat - 20 - 64 * y.value.toNat / 10000000
        let f : Int := (field d.record 0x34 4 : Nat)
        let w := a.value - d.value
        let part (v : Int) : Int := (v - d.value) * (200 * f * f)
        let target := if y.reservoir = 0 ∧ 600 < asks then 300 else if modeAo d.m then min 2600 (max 300 (a.termV.toNat + 200))
          else if d.m = 0x11 then 2600 else 0
        (ao → y.value = a.value) ∧ (¬ao → plain → y.value = sat a.value)
          ∧ (¬ao → ¬plain → ∃ v, min d.value a.value ≤ v ∧ v ≤ max d.value a.value ∧ y.value = sat v
              ∧ (0 ≤ w → w * (20 * f - 1) - 200 * f * f < part v ∧ part v ≤ w * (20 * f))
              ∧ (w < 0 → w * (20 * f) - 200 * f * f < part v ∧ part v ≤ w * (20 * f - 1)))
          ∧ y.settled = true ∧ y.st = d.st ∧ (d.m ≠ 0x11 → y.loopV = 0)
          ∧ (d.m = 0x11 → d.supply.toNat ≤ 2600 → 0 ≤ y.value → y.value ≤ 22000000 →
              (typ - 60) * 99 / 100 ≤ y.loopV.toNat ∧ y.loopV.toNat ≤ (typ + 60) * 101 / 100)
          ∧ p = min (if d.reservoir = 0 then 600 else 1200) asks ∧ reservoirFull ≤ 72000 ∧ y.reservoir = min reservoirFull (d.reservoir + 600 - p)
          ∧ (d.supply.toNat + 200 < target → d.supply.toNat + 200 ≤ y.supply.toNat ∧ y.supply.toNat ≤ target)
          ∧ (target + 50 < d.supply.toNat → target ≤ y.supply.toNat ∧ y.supply.toNat + 50 ≤ d.supply.toNat)
          ∧ (target ≤ d.supply.toNat + 200 → d.supply.toNat ≤ target + 50 → y.supply.toNat = target)
          ∧ (ao → y.has 10 = if off a.value then d.has 10 || decide (20 ≤ tget 0 d.onRun 10)
              else d.has 10 && decide (tget 0 d.offRun 10 < 20))
          ∧ (d.m = 0x12 → y.has 11 = if 10500000 < y.value then d.has 11 || decide (10 ≤ tget 0 d.onRun 11)
              else d.has 11 && decide (tget 0 d.offRun 11 < 100))
          ∧ (ao → y.faultRun = if y.has 10 = false then 0 else if d.st = .gliding ∨ d.st = .holding then d.faultRun else d.faultRun + 1)
          ∧ ChanOnly { s with free := t.free } t c))

/-- R172, R173, R174, R189, R196, R204, R208: an edge accepted after FILTER_US is stamped, by the die's own microsecond counter, with
the moment at which the raw state took its value, and counted; the setpoint moves by at most the slope
and stops at its target, and a hold keeps it; a pulse ends or repeats; a channel goes READY only with its record stored and its pause ended. -/
def Obligations.DieStepsOfEdgesSetpointsAndStart : Prop :=
  ∀ (s : State) (c : ChanId) (level : Bool) (ageUs : Half),
    let d := (s.chan c).die
    let f := field d.record 4 4
    let age := ageUs.toNat
    let toward (target slope : Int) : Int :=
      if target - d.setpoint ≤ slope ∧ d.setpoint - target ≤ slope then target
      else if d.setpoint < target then d.setpoint + slope else d.setpoint - slope
    let rows : List (Instr × Prop × (DieSt → Prop)) :=
      [(.edgeAccepted c level ageUs, modeDigIn d.m = true ∧ d.accepted ≠ level ∧ d.st ≠ .off ∧ d.st ≠ .starting
            ∧ 98 * f ≤ 100 * age + 100 ∧ 100 * age ≤ 102 * f + 100,
          fun y => y.accepted = level ∧ y.edgeCount = d.edgeCount + 1
            ∧ y.lastEdge = d.time + BitVec.ofNat 16 ((s.now - d.timeAt) / 1000) - ageUs
            ∧ (d.m ≠ 4 → y.count = d.count)
            ∧ (d.m = 4 → y.count = if (recCountEdge d.record = 0 ∧ level = true ∨ recCountEdge d.record = 1 ∧ level = false
                ∨ 2 ≤ recCountEdge d.record) ∧ (recGateEn d.record = false ∨ d.gate = true) then d.count + 1 else d.count)),
        (.setpointUpdate c, modeAo d.m = true ∧ d.phase = .ramp,
          fun y => y.setpoint = toward (targetOf d.profile d.seg) (segSlope d.profile d.seg)),
        (.setpointUpdate c, modeAo d.m = true ∧ d.phase = .resume,
          fun y => y.setpoint = toward (d.command * 100) (glResume d.record)
            ∧ y.phase = (if y.setpoint = d.command * 100 then .idle else .resume)),
        (.setpointUpdate c, modeAo d.m = true ∧ d.phase = .idle ∧ d.failing = true ∧ recFailDir d.record = 1
            ∧ (d.st = .running ∨ d.st = .ready ∨ d.st = .stopped),
          fun y => y.setpoint = toward (recFailHigh d.record * 100) (glResume d.record) ∧ y.phase = .idle),
        (.setpointUpdate c, modeAo d.m = true ∧ d.phase = .idle ∧ d.failing = true ∧ recFailDir d.record = 0
            ∧ (d.st = .running ∨ d.st = .ready ∨ d.st = .stopped),
          fun y => y.setpoint = toward (recFailLow d.record * 100) (glResume d.record) ∧ y.phase = .idle),
        (.setpointUpdate c, modeAo d.m = true ∧ d.phase = .idle ∧ (d.st = .holding ∨ d.failing = false),
          fun y => y.setpoint = d.setpoint ∧ y.phase = .idle),
        (.glidePhaseEnd c, d.phase = .pulse ∧ d.applied = true, fun y => y.applied = false ∧ y.phase = .pulse),
        (.glidePhaseEnd c, d.phase = .pulse ∧ d.applied = false ∧ 1 < d.pulses,
          fun y => y.applied = true ∧ y.phase = .pulse ∧ y.pulses = d.pulses - 1),
        (.glidePhaseEnd c, d.phase = .pulse ∧ d.applied = false ∧ d.pulses ≤ 1, fun y => y.applied = false ∧ y.phase = .end_),
        (.glidePhaseEnd c, d.phase = .delay ∧ glKind d.profile = 0x10, fun y => y.applied = false ∧ y.phase = .end_),
        (.glidePhaseEnd c, d.phase = .delay ∧ glKind d.profile = 0x12, fun y => y.applied = true ∧ y.phase = .end_),
        (.glidePhaseEnd c, d.phase = .dwell ∧ glSegs d.profile ≤ d.seg + 1, fun y => y.phase = .end_ ∧ y.setpoint = d.setpoint),
        (.highZPauseEnd c, d.highZ = true, fun y => y = ({ d with pauseDone := true }).settle),
        (.channelReady c true, d.stored = true ∧ (d.highZ = true → d.pauseDone = true),
          fun y => y.mode = recMode d.record ∧ y.st = (if recMode d.record = 0 then .off else .ready) ∧ y.record = d.record
            ∧ y.stored = false ∧ y.highZ = false ∧ y.phase = .idle ∧ y.ovlCount = 0 ∧ y.wdCount = 0 ∧ y.glideCnt = 0
            ∧ y.complCnt = 0 ∧ (recMode d.record = d.mode → y.applied = d.applied ∧ y.setpoint = d.setpoint)
            ∧ (recMode d.record ≠ d.mode → y.applied = false ∧ y.setpoint = recStart d.record * 100)),
        (.channelReady c false, d.stored = true ∧ (d.highZ = true → d.pauseDone = true),
          fun y => y.st = .stopped ∧ y.modeStat = 5 ∧ y.mode = d.mode ∧ y.applied = d.applied)]
    d.alive = true → ∀ p ∈ rows, p.2.1 → Runs p.1 s (fun t => p.2.2 (t.chan c).die ∧ ChanOnly s t c)

/-- R27, R131, R132, R135, R182, R186, R188, Table 7-9: every channel gets a field at each slot, with SEQ one up, the timebase, the
image word or its restart's content; R361: firmware goes out in an even slot and is acknowledged in the odd one, and a record waits for a
die that must first run it; a valid inbound field brings the channel's two input words, which the hub applies, with those of the
slot's other channels, when every running controller has been heard or else at the next slot (the model's choice, log 39); an invalid
field is counted; 4 slots without one make the words BAD, 8 make the channel LOST. -/
def Obligations.CouplerSlotsAndInboundFields : Prop :=
  ∀ (s : State) (c : ChanId), s.up = true →
    let x := s.chan c
    let n := 2 * c.val
    let v := dieValue (Config.freeWord s.free) x.die
    let others := ∀ k : ChanId, k ≠ c → (s.chan k).heard = true ∨ (s.chan k).die.alive = false
    Runs .couplerSlot s (fun t =>
        let f := (t.chan c).out
        f.seq = x.out.seq + 1 ∧ f.time = BitVec.ofNat 16 s.tbrd
          ∧ (x.restart = .none → f.kind = .data ∧ f.data = (s.qwGet c).data ∧ (hubGlides s c = true → f.tag.getLsbD 5 = true))
          ∧ (x.restart = .config → fwHolds x = true → f.kind = .stop ∧ (t.chan c).restart = .config ∧ (t.chan c).chunk = x.chunk)
          ∧ (∀ j, x.fw = some j → x.die.alive = true →
              (s.tbrd / 5 % 2 = 0 → (t.chan c).die.service = j.left.take 8 ∧ (t.chan c).fw = some { j with left := j.left.drop 8 })
                ∧ (s.tbrd / 5 % 2 = 1 → j.left = [] → (t.chan c).fw = none ∧ (j.switch = true → dieFw (t.chan c).die = j.ver)))
          ∧ (x.restart = .config → fwHolds x = false → f.kind = .config ∧ f.chunk = x.chunk ∧ (t.chan c).chunk = x.chunk + 1)
          ∧ (x.restart = .stopping ∨ x.restart = .starting → f.kind = .stop)
          ∧ (∀ w q, (n, w, q) ∈ s.img.slotIn → (∀ e ∈ s.img.slotIn, e.1 = n → e = (n, w, q)) → x.silent = 0 →
              routedIn s.run n = true → t.iwGet n = inputWord s n w 0 q)
          ∧ t.img.slotIn = [])
      ∧ (x.die.alive = true → Runs (.inboundField c true) s (fun t =>
          let y := t.chan c
          y.silent = 0 ∧ y.lost = false ∧ y.state = BitVec.ofNat 4 x.die.st.code ∧ y.mode = x.die.mode ∧ y.modeStat = x.die.modeStat
            ∧ y.now = x.die.live &&& 0xFFE
            ∧ (x.restart = .none → x.check = 0 → others →
                (routedIn s.run n = true → t.iwGet n = inputWord s n v 0 (dieQual x.die))
                  ∧ (routedIn s.run (n + 1) = true → t.iwGet (n + 1) = inputWord s (n + 1) (dieStatus x.die) 0 0))
            ∧ (x.restart = .none → x.check = 0 → ¬others →
                t.img.iw = s.img.iw ∧ (n, v, dieQual x.die) ∈ t.img.slotIn ∧ (n + 1, dieStatus x.die, 0) ∈ t.img.slotIn)))
      ∧ (x.die.alive = true → Runs (.inboundField c false) s (fun t =>
          let y := t.chan c
          y.linkErr = satInc x.linkErr ∧ y.diag = x.diag ||| 1 ∧ y.now = x.now ||| 1 ∧ t.host.irq.getLsbD 5 = true
            ∧ y.silent = x.silent ∧ y.die = x.die ∧ (¬others → ChanOnly s t c)))
      ∧ (4 ≤ x.silent → Runs (.channelBad c) s (fun t =>
          (routedIn s.run n = true → simFor s n = none → forceFor s false n = none →
              (t.iwGet n).data = (s.iwGet n).data ∧ tagQual (t.iwGet n).tag = 3)
            ∧ (routedIn s.run (n + 1) = true → simFor s (n + 1) = none → forceFor s false (n + 1) = none →
                (t.iwGet (n + 1)).data = (s.iwGet (n + 1)).data &&& 0xFFFFFFFE ∧ tagQual (t.iwGet (n + 1)).tag = 3)
            ∧ ∀ k, k ≠ n → k ≠ n + 1 → t.iwGet k = s.iwGet k))
      ∧ (8 ≤ x.silent → x.lost = false → Runs (.channelLost c) s (fun t =>
          t.chan c = { x with lost := true, now := x.now ||| 1, diag := x.diag ||| 1 } ∧ t.host.irq.getLsbD 5 = true ∧ ChanOnly s t c))

/-- R29, R30, R181, R209, R354, R361: a controller without supply stops de-energised and keeps only its firmware; when its supply has
come back it starts in OFF, and the hub restarts the channel with the image's record. One whose clock alone had failed goes on as it
stood, which is the model's reading (log 25). A die whose version is not the bank's switches to the other slot, or that slot is
programmed first. -/
def Obligations.ControllersStopRestartAndSwitchSlots : Prop :=
  ∀ (s : State) (c : ChanId),
    let x := s.chan c
    let d := x.die
    let v := (runningBank s).chanVer
    Runs (.controllerStop c) s (fun t =>
        let y := (t.chan c).die
        y.powered = false ∧ y.st = .off ∧ y.applied = false ∧ y.setpoint = 0 ∧ y.record = [] ∧ y.fw0 = d.fw0 ∧ y.fw1 = d.fw1
          ∧ y.slot1 = d.slot1 ∧ { t.chan c with die := d, fw := x.fw } = x ∧ (t.chan c).fw = none
          ∧ (x.fw.any (fun j => !j.switch) = false → ChanOnly s t c)
          ∧ (x.fw.any (fun j => !j.switch) = true → t.upd.pend.getLsbD c = true ∧ ChanOnly { s with upd := t.upd } t c))
      ∧ (d.alive = false → d.powered = true → Runs (.controllerRestart c) s (fun t =>
          t.chan c = { x with die := { d with clkFail := false } } ∧ ChanOnly s t c))
      ∧ (d.powered = false → s.up = false → Runs (.controllerRestart c) s (fun t =>
          t.chan c = { x with die := d.blank } ∧ ChanOnly s t c))
      ∧ (d.powered = false → s.up = true → s.run.loaded = true → Runs (.controllerRestart c) s (fun t =>
          (t.chan c).die.alive = true ∧ (t.chan c).die.st = .off ∧ (t.chan c).restart = .stopping
            ∧ (t.chan c).newRec = padTo 128 (s.run.channels.getD c [])
            ∧ (routedIn s.run (2 * c.val) = true → simFor s (2 * c.val) = none → forceFor s false (2 * c.val) = none →
                tagQual (t.iwGet (2 * c.val)).tag = 3)
            ∧ (∀ k : Nat, k ≠ c.val → t.chan k = s.chan k)))
      ∧ (s.up = true → d.alive = true → dieFw d ≠ v → x.fw.any (·.switch) = false →
          ((otherSlot d).ver = v → Runs (.slotSwitch c) s (fun t =>
              dieFw (t.chan c).die = v ∧ (t.chan c).die.slot1 = !d.slot1 ∧ (t.chan c).die.st = d.st ∧ ChanOnly s t c))
            ∧ ((otherSlot d).ver ≠ v → Runs (.slotSwitch c) s (fun t =>
              (t.chan c).fw = some ⟨partOf (runningBank s) 4, v, true, true⟩ ∧ (t.chan c).die.slot1 = d.slot1
                ∧ (t.chan c).die.st = d.st ∧ (t.chan c).die.applied = d.applied ∧ ChanOnly s t c)))
      ∧ (dieFw d = v → Runs (.slotSwitch c) s (fun t => t = s))

/-! ### The host mailbox (chapters 12, 15, 16) -/

/-- Table 16-24, R114, R113, R395, R396, R52, R53: module, task and unit commands on a free mailbox; a result is posted with its
STATUS, or the command goes on with BUSY. R392: a command written while another is in progress is discarded with LOST and changes
nothing else. -/
def Obligations.MailboxModuleAndTaskCommands : Prop :=
    (∀ (s : State) (p : Port) (tag : Half), MbFree s →
      let a := argN s 0
      let x := s.task a
      let buf := readBytes s.host.xfer 0 4096
      Runs (.nop p tag) s (fun t => Posted s t 0x00 tag 0 [] [] ∧ MbOnly s t)
        ∧ (a = 0x5253 → s.sup.resetAt = none → Runs (.hostReset p tag) s (fun t =>
            Posted s t 0x01 tag 0 [] [] ∧ MbOnly { s with sup := { s.sup with resetAt := some (0x06, s.now + 1000000) } } t))
        ∧ (a ≠ 0x5253 → Runs (.hostReset p tag) s (fun t => Posted s t 0x01 tag 4 [] [] ∧ MbOnly s t))
        ∧ (a < 32 → (s.tcfg a).kind ≠ 0 → x.st = .idle → x.wanted = false → lanePending a s = false → Runs (.taskStop p tag) s (fun t =>
            Posted s t 0x10 tag 0 [ttStatus (s.tcfg a) (t.task a)] [] ∧ (t.task a).st = .stopped ∧ (t.task a).cause = 1
              ∧ (t.task a).batch = [] ∧ ∀ k : Nat, k ≠ a → t.task k = s.task k))
        ∧ (a < 32 → (s.tcfg a).kind ≠ 0 → x.st = .running → Runs (.taskStop p tag) s (fun t =>
            GoesOn s t 0x10 tag ∧ (t.task a).stopReq = x.stopReq.or (some 1) ∧ (t.task a).st = .running
              ∧ ∀ k : Nat, k ≠ a → t.task k = s.task k))
        ∧ (a < 32 → (s.tcfg a).kind ≠ 0 → x.st = .stopped ∨ x.st = .fault → regionFaulted s a = false → regionRestarting s a = false →
            s.cfg.job = none → s.safe.st ≠ .stop → Runs (.taskStart p tag) s (fun t =>
            Posted s t 0x11 tag 0 [ttStatus (s.tcfg a) (t.task a)] [] ∧ (t.task a).st = .idle ∧ (t.task a).cause = 0
              ∧ (t.task a).actCnt = 0 ∧ (t.task a).skipped = 0 ∧ (t.task a).bb = [] ∧ (t.task a).stopReq = none
              ∧ ∀ k : Nat, k ≠ a → t.task k = s.task k))
        ∧ (a ≤ 15 → Runs (.hostEvent p tag) s (fun t =>
            Posted s t 0x12 tag 0 [] [] ∧ ∀ k : TaskId,
              let named := (s.tcfg k).kind = 2 ∧ (s.tcfg k).trigger = natAt 24 6 ||| natAt 0 a
              (¬named → t.task k = s.task k)
                ∧ (named → ownTiming s = true → (s.task k).st = .idle → (s.task k).wanted = false →
                    t.task k = { s.task k with wanted := true, startNs := s.now })))
        ∧ (1 ≤ a → a ≤ 512 → Runs (.hostWrite p tag) s (fun t =>
            GoesOn s t 0x13 tag ∧ ∃ b : InBatch, b.origin = 6 ∧ b.cmd = .host ∧ b.entries.length = a
              ∧ (∀ i < a, ∃ e, b.entries[i]? = some e ∧ e.num = (fieldW buf (8 * i)).toNat % 32768 ∧ e.data = fieldW buf (8 * i + 4)
                  ∧ e.tag = (fieldW buf (8 * i) >>> 16) &&& 3)
              ∧ t.img.hostIn = s.img.hostIn ++ [b] ∧ t.img.iw = s.img.iw ∧ (s.img.glides = [] → s.img.lostWords = none → t.img.qw = s.img.qw)
              ∧ MbOnly { s with img := t.img } t))
        ∧ (a = 0 ∨ 512 < a → Runs (.hostWrite p tag) s (fun t => Posted s t 0x13 tag 4 [] [] ∧ MbOnly s t))
        ∧ (a < 16 → s.cfg.job = none → (s.region a).restart = .none → Runs (.regionRestart p tag) s (fun t =>
            GoesOn s t 0x20 tag
              ∧ (regionOwner s.run a = none → (s.region a).wave = false → (t.region a).restart = .selftest ∧ (t.region a).st = .selftest ∧ (t.region a).bits = [])
              ∧ (∀ k, regionOwner s.run a = some k → (s.task k).st = .running →
                  (t.region a).restart = .stopping
                    ∧ (t.task k).stopReq = (if (s.task k).stopReq = some 1 then some 7 else (s.task k).stopReq.or (some 7)))
              ∧ (∀ k, regionOwner s.run a = some k → (s.tcfg k).kind ≠ 0 → (s.task k).st = .idle → (s.task k).wanted = false →
                  lanePending k s = false → (s.region a).wave = false → (t.region a).restart = .selftest ∧ (t.task k).st = .stopped ∧ (t.task k).cause = 7)))
        ∧ (a < 48 → s.cfg.job = none → (s.chan a).restart = .none → Runs (.channelRestart p tag) s (fun t =>
            GoesOn s t 0x21 tag ∧ (t.chan a).restart = .stopping ∧ (t.chan a).newRec = padTo 128 (s.run.channels.getD a [])
              ∧ ∀ k : Nat, k ≠ a → t.chan k = s.chan k)))
    ∧
    (∀ (s : State) (p : Port) (tag : Half) (mem : List Byte), s.up = true → s.pcieReach = true → s.mb.busy ≠ none →
      ∀ i ∈ [Instr.nop p tag, .hostReset p tag, .taskStop p tag, .taskStart p tag, .hostEvent p tag, .hostWrite p tag,
          .regionRestart p tag, .channelRestart p tag, .xferAppend p tag, .xferFetch p tag mem, .xferClear p tag, .imgBegin p tag,
          .imgSegment p tag, .imgEnd p tag, .imgAbort p tag, .psRead p tag, .psWrite p tag, .dcntRead p tag, .dcntInc p tag,
          .switchover p tag, .resync p tag, .updBegin p tag, .updChunk p tag, .updVerify p tag, .updActivate p tag, .updConfirm p tag,
          .updRevert p tag, .updCancel p tag],
        Runs i s (fun t => { t with host := { t.host with spiLow := s.host.spiLow } } = { s with mb := { s.mb with lost := true } }))

/-- Table 16-24, R394: the assembly buffer and the image upload, which is given up 60 s after its last segment. -/
def Obligations.MailboxTransferAndUploadCommands : Prop :=
  ∀ (s : State) (p : Port) (tag : Half) (mem : List Byte), MbFree s →
    let a := argN s 0
    let buf := readBytes s.host.xfer 0 4096
    let len := s.mb.asm.length
    let withMb (m : MbSt) : State := { s with mb := m }
    (1 ≤ a → a ≤ 4096 → argN s 1 = len → len + a ≤ 65536 → Runs (.xferAppend p tag) s (fun t =>
        Posted s t 0x30 tag 0 [natAt 0 (len + a)] [] ∧ MbOnly (withMb { s.mb with asm := s.mb.asm ++ buf.take a }) t))
      ∧ (1 ≤ a → a ≤ 4096 → argN s 1 ≠ len → Runs (.xferAppend p tag) s (fun t => Posted s t 0x30 tag 0x0A [] [] ∧ MbOnly s t))
      ∧ (1 ≤ argN s 2 → argN s 2 ≤ 65536 → s.host.command.getLsbD 2 = true → Runs (.xferFetch .pcie tag mem) s (fun t =>
          Posted s t 0x31 tag 0 [natAt 0 (argN s 2)] [] ∧ MbOnly (withMb { s.mb with asm := padTo (argN s 2) mem }) t))
      ∧ (1 ≤ argN s 2 → argN s 2 ≤ 65536 → s.host.command.getLsbD 2 = false → Runs (.xferFetch .pcie tag mem) s (fun t =>
          Posted s t 0x31 tag 9 [] [] ∧ MbOnly s t))
      ∧ Runs (.xferFetch .spi tag mem) s (fun t => Posted s t 0x31 tag 2 [] [] ∧ MbOnly s t)
      ∧ Runs (.xferClear p tag) s (fun t => Posted s t 0x32 tag 0 [] [] ∧ MbOnly (withMb { s.mb with asm := [] }) t)
      ∧ (s.mb.upload = none → 64 ≤ a → a ≤ 0x02800000 → stagingFull s = false → Runs (.imgBegin p tag) s (fun t =>
          Posted s t 0x40 tag 0 [] [] ∧ MbOnly (withMb { s.mb with upload := some { size := a, data := [], segs := 0, at_ := s.now } }) t))
      ∧ (s.mb.upload ≠ none → Runs (.imgBegin p tag) s (fun t => Posted s t 0x40 tag 3 [] [] ∧ MbOnly s t))
      ∧ (∀ u, s.mb.upload = some u →
          (a = u.segs → 65536 * a < u.size → len = min 65536 (u.size - 65536 * a) → stagingFull s = false → s.stor.worn = [] →
              s.stor.retired = [] →
              Runs (.imgSegment p tag) s (fun t => Posted s t 0x41 tag 0 [natAt 0 (a + 1)] []
                ∧ MbOnly { s with stor := t.stor, mb := { s.mb with
                  asm := [], upload := some { u with data := u.data ++ s.mb.asm, segs := a + 1, at_ := s.now } } } t
                ∧ (s.stor.refresh = none → s.stor.remap = [] → wearOf t (stagingSector s.stor.stagingNext)
                    = wearOf s (stagingSector s.stor.stagingNext) + 1)))
            ∧ (a ≠ u.segs → Runs (.imgSegment p tag) s (fun t => Posted s t 0x41 tag 0x0A [] [] ∧ MbOnly s t))
            ∧ (loadBusy s = true → Runs (.imgEnd p tag) s (fun t => Posted s t 0x42 tag 3 [] [] ∧ MbOnly s t))
            ∧ (loadBusy s = false → Runs (.imgEnd p tag) s (fun t =>
                Posted s t 0x42 tag 1 [] [] ∧ t.mb.upload = none ∧ t.cfg.stage = 2 ∧ t.cfg.status = 1
                  ∧ t.cfg.job = some { bytes := u.data, delta := hdrDelta u.data } ∧ RunsOn s t)))
      ∧ Runs (.imgAbort p tag) s (fun t => Posted s t 0x43 tag 0 [] [] ∧ MbOnly (withMb { s.mb with upload := none }) t)
      ∧ (∀ u, s.mb.upload = some u →
          (u.at_ + 60000000000 ≤ s.now → Runs .uploadTimeout s (fun t => t = withMb { s.mb with upload := none }))
            ∧ (s.now < u.at_ + 60000000000 → Runs .uploadTimeout s (fun t => t = s)))

/-- R303–R305, R308, R310–R313, R315: a page reads the newest record with a right DATA_CRC; a write lays its bytes from OFFSET,
wrapping at the page's end, and leaves other pages; a counter reads and counts, and the module's pages and counters refuse. -/
def Obligations.PagesAndCountersReadAndWrite : Prop :=
  ∀ (s : State) (p : Port) (tag : Half), MbFree s → s.stor.ready = true →
    let a := argN s 0
    let off := argN s 1
    let n := argN s 2
    let data := (readBytes s.host.xfer 0 4096).take n
    let v := dcValue s a
    let vals (k : Nat) : List Word := [BitVec.ofNat 32 k, BitVec.ofNat 32 (k / 2 ^ 32)]
    (a < 4096 → Runs (.psRead p tag) s (fun t =>
        Posted s t 0x50 tag 0 [] (psContent s a).1 ∧ ((psContent s a).2 = true → t.stor.psFallback = true)
          ∧ ((psContent s a).2 = false → MbOnly s t)))
      ∧ (1024 ≤ a → a < 4096 → off < 256 → 1 ≤ n → n ≤ 256 → psRateOver s 1 = false → StoreRoom s →
          Runs (.psWrite p tag) s (fun t => Posted s t 0x51 tag 0 [] [] ∧ MbOnly { s with stor := t.stor } t
            ∧ (∀ k < 256, let i := (k + 256 - off) % 256
                (psContent t a).1.getD k 0 = if i < n then data.getD i 0 else (psContent s a).1.getD k 0xFF)
            ∧ ∀ q, q ≠ a → psContent t q = psContent s q))
      ∧ (a < 1024 → off < 256 → 1 ≤ n → n ≤ 256 → Runs (.psWrite p tag) s (fun t => Posted s t 0x51 tag 2 [] [] ∧ MbOnly s t))
      ∧ (256 ≤ a → a < 1024 → Runs (.dcntRead p tag) s (fun t => Posted s t 0x58 tag 0 (vals v) [] ∧ MbOnly s t))
      ∧ (a < 256 → Runs (.dcntRead p tag) s (fun t => Posted s t 0x58 tag 2 [] [] ∧ MbOnly s t)
          ∧ Runs (.dcntInc p tag) s (fun t => Posted s t 0x59 tag 2 [] [] ∧ MbOnly s t))
      ∧ (256 ≤ a → a < 1024 → dcRateFull s = false → 2 ^ 64 - 1 ≤ v →
          Runs (.dcntInc p tag) s (fun t => Posted s t 0x59 tag 8 (vals v) [] ∧ MbOnly s t))
      ∧ (1024 ≤ a → a < 4096 → off < 256 → 1 ≤ n → n ≤ 256 → psRateOver s 1 = true →
          Runs (.psWrite p tag) s (fun t => Posted s t 0x51 tag 3 [] [] ∧ MbOnly s t))
      ∧ (256 ≤ a → a < 1024 → dcRateFull s = true → Runs (.dcntInc p tag) s (fun t => Posted s t 0x59 tag 3 [] [] ∧ MbOnly s t))
      ∧ (256 ≤ a → a < 1024 → dcRateFull s = false → v < 2 ^ 64 - 1 → AreaRoom dcLog s → ∀ sec r, dcCurrent s a = some (sec, r) → r.prog < 255 →
          Runs (.dcntInc p tag) s (fun t => Posted s t 0x59 tag 0 (vals (v + 1)) [] ∧ dcValue t a = v + 1
            ∧ (∀ m, m ≠ a → dcValue t m = dcValue s m) ∧ MbOnly { s with stor := t.stor } t))

/-- R358, R359, R362, R364, R365, R290, R291, Table 16-24: the update commands, SWITCHOVER and RESYNC. R357, R360, R361, Table 15-9:
verification refuses or goes on to the preparation, which builds the other bank; the trial confirms by itself when its conditions have
held. -/
def Obligations.UpdateAndPairCommands : Prop :=
    (∀ (s : State) (p : Port) (tag : Half), MbFree s →
      let u := s.upd
      let a := argN s 0
      let size := argN s 4
      (u.st = .idle → 64 ≤ size → size ≤ 0x02000000 → Runs (.updBegin p tag) s (fun t =>
          Posted s t 0x70 tag 0 [0] [] ∧ t.upd.st = .receiving ∧ t.upd.result = 0
            ∧ t.upd.pkg = some { id := (List.range 4).flatMap (fun i => leBytes 4 (argN s i)), size := size }
            ∧ t.upd.bankA = u.bankA ∧ t.upd.bankB_ = u.bankB_))
        ∧ (u.st ≠ .idle → u.st ≠ .trial ∨ u.pkg ≠ none → Runs (.updBegin p tag) s (fun t =>
            Posted s t 0x70 tag 0x0B [0x0C] [] ∧ { t.upd with result := u.result } = u ∧ t.upd.result = 0x0C))
        ∧ (u.st = .trial → u.pkg = none → Runs (.updBegin p tag) s (fun t =>
            Posted s t 0x70 tag 0x0B [0x0D] [] ∧ { t.upd with result := u.result } = u ∧ t.upd.result = 0x0D))
        ∧ (∀ k, u.pkg = some k → u.st = .receiving → chunkSize s a = some s.mb.asm.length → stagingFull s = false → s.stor.worn = [] →
            s.stor.retired = [] →
            Runs (.updChunk p tag) s (fun t => Posted s t 0x71 tag 0 [0] [] ∧ t.mb.asm = [] ∧ t.upd.st = .receiving
              ∧ ∃ k', t.upd.pkg = some k' ∧ k'.id = k.id ∧ k'.size = k.size ∧ tget [] k'.chunks a = s.mb.asm
                ∧ ∀ j, j ≠ a → tget [] k'.chunks j = tget [] k.chunks j))
        ∧ (∀ k, u.pkg = some k → u.st = .receiving → k.chunks.length = (k.size + 65535) / 65536 →
            let fits (c : Nat × List Byte) : Prop := ∃ r ∈ u.recs, r.kind = 2 ∧ r.value = c.1 ∧ r.crc = crc32c c.2
            ((∀ c ∈ k.chunks, fits c) → Runs (.updVerify p tag) s (fun t => Posted s t 0x72 tag 1 [] []
              ∧ t.upd = { u with st := .verifying, progress := 0, result := 1, recs := t.upd.recs } ∧ (∀ r ∈ t.upd.recs, r ∈ u.recs)))
            ∧ (∀ c ∈ k.chunks, ¬fits c → Runs (.updVerify p tag) s (fun t => Posted s t 0x72 tag 0x0B [0x0D] []
              ∧ t.upd.st = .receiving ∧ t.upd.result = 0x0D ∧ ∃ k', t.upd.pkg = some k' ∧ c ∉ k'.chunks)))
        ∧ (u.st = .prepared → s.cfg.job = none → s.red.st = .single → s.run.pair = false → s.sup.resetAt = none →
            Runs (.updActivate p tag) s (fun t => Posted s t 0x73 tag 0 [0] [] ∧ t.sup.resetAt = some (0x07, s.now)
              ∧ ∃ r, t.upd.recs = u.recs ++ [r] ∧ r.kind = 3 ∧ r.fromB = u.bankB ∧ r.toB = !u.bankB))
        ∧ (u.st = .trial → trialHolds s = true → Runs (.updConfirm p tag) s (fun t => Posted s t 0x74 tag 0 [0] []
            ∧ t.upd.st = .idle ∧ t.upd.trial = 0 ∧ t.upd.confirmed = true ∧ t.upd.outcome = 1 ∧ t.upd.pkg = none
            ∧ t.upd.rollback = none ∧ t.upd.bankB = u.bankB))
        ∧ (u.st = .trial → trialHolds s = false → Runs (.updConfirm p tag) s (fun t => Posted s t 0x74 tag 0x0B [0x0E] []
            ∧ t.upd = { u with result := 0x0E }))
        ∧ (u.st = .trial → s.sup.resetAt = none → Runs (.updRevert p tag) s (fun t => Posted s t 0x75 tag 0 [0] []
            ∧ t.upd.outcome = 3 ∧ t.upd.reverted = true ∧ t.sup.resetAt = some (0x07, s.now)
            ∧ ∃ r, t.upd.recs = u.recs ++ [r] ∧ r.kind = 5 ∧ r.value = 2))
        ∧ (u.pkg ≠ none → Runs (.updCancel p tag) s (fun t => Posted s t 0x76 tag 0 [0] []
            ∧ t.upd.st = (if u.st = .trial then .trial else .idle) ∧ t.upd.pkg = none ∧ t.upd.trial = u.trial
            ∧ (∀ r ∈ t.upd.recs, r.kind ≠ 1 ∧ r.kind ≠ 2) ∧ ∃ r ∈ t.upd.recs, r.kind = 6))
        ∧ (s.variant.redundancy = false → Runs (.switchover p tag) s (fun t => Posted s t 0x60 tag 6 [] [] ∧ MbOnly s t)
            ∧ Runs (.resync p tag) s (fun t => Posted s t 0x61 tag 6 [] [] ∧ MbOnly s t))
        ∧ (s.variant.redundancy = true → s.red.st = .active → partnerReady s = true → s.red.handover = none →
            Runs (.switchover p tag) s (fun t => GoesOn s t 0x60 tag
              ∧ MbOnly { s with red := { s.red with handover := some (BitVec.ofNat 4 soCommand) } } t))
        ∧ (s.variant.redundancy = true → s.red.st = .single ∨ s.red.st = .active ∨ s.red.st = .arbitrating →
            Runs (.resync p tag) s (fun t => Posted s t 0x61 tag 9 [] [] ∧ MbOnly s t))
        ∧ (s.variant.redundancy = true → s.red.st = .disqualified → s.sup.resetAt = none → Runs (.resync p tag) s (fun t =>
            Posted s t 0x61 tag 1 [] [] ∧ t.sup.resetAt = some (0x09, s.now) ∧ t.red.disqAt = []))
        ∧ (s.variant.redundancy = true → s.red.st = .held → partnerActive s = false ∨ goodPartner s = false →
            Runs (.resync p tag) s (fun t => Posted s t 0x61 tag 7 [] [] ∧ MbOnly s t))
        ∧ (s.variant.redundancy = true → s.red.st = .ready ∨ s.red.st = .comparing → partnerActive s = false →
            Runs (.resync p tag) s (fun t => Posted s t 0x61 tag 1 [] [] ∧ t.red.st = .syncing ∧ t.red.step = 1 ∧ t.red.why = 2
              ∧ t.red.resyncs = satInc s.red.resyncs ∧ ∀ k : TaskId, (t.task k).busy = false)))
    ∧
    (∀ (s : State) (p : UpdPkg) (fail noL : BitVec 48), s.up = true →
      let u := s.upd
      let withUpd (x : UpdSt) : State := { s with upd := x }
      let inactive (v : UpdSt) : Bank := if v.bankB then v.bankA else v.bankB_
      let active (v : UpdSt) : Bank := if v.bankB then v.bankB_ else v.bankA
      (u.pkg = some p → u.st = .verifying →
          (verifyPkg s p = 0 → Runs .verificationDone s (fun t =>
              t.upd.st = .preparing ∧ t.upd.result = 1 ∧ t.upd.progress = 0 ∧ t.upd.again = 0 ∧ t.upd.recs = u.recs ∧ t.upd.pkg = u.pkg
                ∧ inactive t.upd = { seq := (inactive u).seq } ∧ active t.upd = active u ∧ t.upd.bankB = u.bankB
                ∧ (s.stor.remap = [] → ∀ i < 768, wearOf t (inactiveBase s + i) = wearOf s (inactiveBase s + i) + 1)
                ∧ (hasChannel p = false → t.upd.pend = 0 ∧ { t with upd := u, stor := s.stor } = s)
                ∧ (hasChannel p = true → { t with upd := u, stor := s.stor, chans := s.chans } = s ∧ ∀ c : ChanId,
                    ((s.chan c).die.alive = true → t.upd.pend.getLsbD c = false
                        ∧ (t.chan c).fw = some ⟨partOf (channelBank s p) 4, (channelBank s p).chanVer, false, false⟩)
                      ∧ ((s.chan c).die.alive = false → t.upd.pend.getLsbD c = true ∧ t.chan c = s.chan c))))
            ∧ (verifyPkg s p ≠ 0 → Runs .verificationDone s (fun t =>
              t = withUpd { u with st := .idle, result := verifyPkg s p, progress := 0 })))
        ∧ (u.st ≠ .verifying → Runs .verificationDone s (fun t => t = s))
        ∧ (u.pkg = some p → u.st = .preparing → s.stor.refresh = none → (∀ c : ChanId, (s.chan c).fw = none) →
            (buildBank s (pkgBytes p) = none → Runs (.preparationDone fail noL) s (fun t =>
                t = withUpd { u with st := .idle, result := 0x09, progress := 0 }))
              ∧ (∀ k, buildBank s (pkgBytes p) = some k → s.stor.worn = [] → s.stor.retired = [] →
                  let fails (c : ChanId) : Prop :=
                    hasChannel p = true ∧ fail.getLsbD c = true ∧ noL.getLsbD c = false ∧ (s.chan c).die.alive = true
                  ((∀ c, ¬fails c) → Runs (.preparationDone fail noL) s (fun t =>
                      t.upd.st = .prepared ∧ t.upd.result = 0 ∧ t.upd.progress = 1000 ∧ inactive t.upd = k ∧ active t.upd = active u
                        ∧ t.upd.bankB = u.bankB ∧ t.upd.recs = u.recs ∧ t.upd.pkg = u.pkg
                        ∧ (∀ c : ChanId, t.upd.pend.getLsbD c = (u.pend.getLsbD c || (hasChannel p && noL.getLsbD c)) ∧ t.chan c = s.chan c)
                        ∧ { t with upd := u, chans := s.chans } = s))
                    ∧ (∀ c, fails c → (∀ d : ChanId, u.again.getLsbD d = false) → Runs (.preparationDone fail noL) s (fun t =>
                      t.upd.st = .preparing ∧ t.upd.again.getLsbD c = true ∧ inactive t.upd = inactive u
                        ∧ (t.chan c).fw = some ⟨partOf (channelBank s p) 4, (channelBank s p).chanVer, false, false⟩))
                    ∧ (∀ c, fails c → u.again.getLsbD c = true → Runs (.preparationDone fail noL) s (fun t =>
                      t = withUpd { u with st := .idle, result := 0x0A, progress := 0 }))))
        ∧ (∀ h, u.st = .trial → autoConfirmS s ≠ 0 → trialHolds s = true → u.holdFrom = some h → h + 1000 * autoConfirmS s ≤ s.opMs →
            Runs .autoConfirm s (fun t =>
            t.upd.st = .idle ∧ t.upd.trial = 0 ∧ t.upd.confirmed = true ∧ t.upd.outcome = 1 ∧ t.upd.bankB = u.bankB
              ∧ ∃ r ∈ t.upd.recs, r.kind = 4))
        ∧ (u.st ≠ .trial ∨ trialHolds s = false ∨ u.holdFrom = none → Runs .autoConfirm s (fun t => t = s))
        ∧ (∀ h, u.holdFrom = some h → s.opMs < h + 1000 * autoConfirmS s → Runs .autoConfirm s (fun t => t = s)))

/-! ### Host port, storage, Diary (chapters 12, 13, 16) -/

/-- R338, R386–R393, R244, Tables 16-14 to 16-17: reads latch the shadow of their own port; a snapshot is taken hidden and shows
at one edge; interrupts are enabled and cleared; accesses that the port does not take are counted. The configuration space is
PCI Express's own (R387): a write of Command keeps its fixed bits, PERST_N returns it to its reset value, and without Memory Space
Enable no PCIe access reaches the module; which of its bits are writable is log 23. -/
def Obligations.HostPortReadsWritesAndSnapshots : Prop :=
    (∀ (s : State) (p : Port) (v : Word) (off size : Nat), s.up = true → s.pcieReach = true →
    let h := s.host
    let sh (t : State) : PortSh := shadowOf (some p) t
    let sec := s.net.plantNs / 1000000000
    let withHost (x : HostSt) : State := { s with host := x }
    let write (o n : Nat) (w : Word) : Instr := .hostRegisterWrite p .bar0 o n w
    let mark (t : State) : State := { t with host := { t.host with spiLow := h.spiLow } }
    Runs (.mbResultRead p) s (fun t => (sh t).last = atBit 16 s.mb.rseq ||| atBit 0 s.mb.rstat ∧ (sh t).rtag = s.mb.rtag
        ∧ (sh t).rval = s.mb.rval ∧ (sh t).rdata = s.mb.rdata ∧ { t with host := h } = s)
      ∧ Runs (.rtcTime0Read p) s (fun t => (sh t).last = rtcTime0 s.rtc ∧ (sh t).rtc1 = rtcTime1 s.rtc ∧ { t with host := h } = s)
      ∧ Runs (.netPtpSecLoRead p) s (fun t => (sh t).last = BitVec.ofNat 32 sec ∧ (sh t).ptpHi = natAt 0 (sec / 2 ^ 32 % 2 ^ 16)
          ∧ (sh t).ptpNs = BitVec.ofNat 32 (s.net.plantNs % 1000000000) ∧ { t with host := h } = s)
      ∧ (h.freeze = false → h.snapBusy = false → ∀ i ∈ [Instr.take, .snapshotPeriod], (i = .snapshotPeriod → h.snapPeriod ≠ 0) →
          Runs i s (fun t => t = withHost { h with
            snapBusy := true, hideIw := s.img.iw, hideQw := s.img.qw, hideTb := BitVec.ofNat 32 s.tbrd }))
      ∧ Runs (.freeze true) s (fun t => t = withHost { h with freeze := true, snapBusy := false, hideIw := [], hideQw := [], hideTb := 0 })
      ∧ Runs (.freeze false) s (fun t => t = withHost { h with freeze := false })
      ∧ (h.snapBusy = true → Runs .snapshotDone s (fun t => t.host.snapBusy = false ∧ t.host.snapIw = h.hideIw
          ∧ t.host.snapQw = h.hideQw ∧ t.host.snapTb = h.hideTb ∧ t.host.snapSeq = h.snapSeq + 1 ∧ t.host.irq.getLsbD 7 = true
          ∧ t.img = s.img))
      ∧ Runs (.hostIrqEnWrite v) s (fun t => t.host.irqEn = v.setWidth 8 ∧ t.host.sevMin = (v >>> 24).setWidth 2 ∧ t.host.irq = h.irq
          ∧ (∀ i < 8, t.host.msixSent.getLsbD i
              = (h.msixSent.getLsbD i || (v.getLsbD i && !h.irqEn.getLsbD i && h.irq.getLsbD i))))
      ∧ Runs (.hostRegisterWrite p .bar2 off size v) s (fun t => mark t = withHost { h with err2 := satInc h.err2 })
      ∧ (size ≠ 4 ∨ off % 4 ≠ 0 → Runs (write off size v) s (fun t => mark t = withHost { h with err0 := satInc h.err0 }))
      ∧ (off < 8 → Runs (write (0x800 + 4 * off) 4 v) s (fun t => tget 0 t.mb.args off = v
          ∧ ∀ j, j ≠ off → tget 0 t.mb.args j = tget 0 s.mb.args j))
      ∧ Runs (write 0x60 4 v) s (fun t => t.host.irq = h.irq &&& ~~~(v.setWidth 8))
      ∧ (off % 4 = 0 → off < 4096 → Runs (write (0x9000 + off) 4 v) s (fun t =>
          readBytes t.host.xfer off 4 = wordBytes v ∧ ∀ x, ¬(off ≤ x ∧ x < off + 4) → readByte t.host.xfer x = readByte h.xfer x))
      ∧ (off < 16 → ∀ w, Runs (write (4 * off) 4 w) s (fun t => mark t = s))
      ∧ Runs .spiFrameInvalid s (fun t => t = withHost { h with err0 := satInc h.err0, spiLow := true })
      ∧ Runs .perstN s (fun t => t = withHost { h with msixTable := [], command := 0, bar0 := 0, bar2 := 0, pcieUp := true })
      ∧ Runs (.hostRegisterWrite .pcie .config 4 2 v) s (fun t =>
          t = withHost { h with command := (h.command &&& ~~~0x0546#16) ||| (v.setWidth 16 &&& 0x0546#16) }))
    ∧
    (∀ (s : State) (v : Word) (off size : Nat),
      Runs (.hostRegisterWrite .spi .config off size v) s (fun t => t = s)
        ∧ (s.pcieReach = false → ∀ i ∈ [Instr.mbResultRead .pcie, .rtcTime0Read .pcie, .netPtpSecLoRead .pcie,
            .hostRegisterWrite .pcie .bar0 off size v, .hostRegisterWrite .pcie .bar2 off size v],
            Runs i s (fun t => t = s)))

/-- R301, R302, R316–R320: the check pointer and the refresh, the end of an erase with its wear, replacement of a sector that
fails, the operating time. A weak sector that cannot be rewritten now stays the oldest (log 37). -/
def Obligations.StorageRefreshEraseAndOperatingTime : Prop :=
  ∀ (s : State) (sector : Fin 4096), s.up = true →
    let x := s.stor.nextCheck
    let only (t : State) : Prop := SignalsOnly s { t with stor := s.stor }
    let sound := s.stor.worn = [] ∧ s.stor.retired = []
    let clean : CheckFound := ⟨true, [], [], []⟩
    let passed (t : State) : Prop := t.stor.nextCheck = (x + 1) % 4096 ∧ tget 0 t.stor.checkedMs x = s.opMs
      ∧ t.stor.refreshPass = (if x = 4095 then s.stor.refreshPass + 1 else s.stor.refreshPass) ∧ only t
    (s.sup.phase ≠ .dusk → ∀ f : CheckFound, f.weak = false → f.chunks = [] → Runs (.refreshCheck f) s (fun t =>
        passed t ∧ t.stor.refresh = s.stor.refresh ∧ t.stor.refreshed = s.stor.refreshed ∧ t.stor.erasing = s.stor.erasing
          ∧ ∀ y ∈ f.worn, y.val ∈ t.stor.worn ∨ y.val ∈ s.stor.retired))
      ∧ (s.sup.phase ≠ .dusk → isPs x = false → isDc x = false →
          (∀ r, s.stor.refresh = none → pickReserve s x = some r → sound → Runs (.refreshCheck clean) s (fun t =>
              passed t ∧ t.stor.refresh = some (x, r, .copied)))
            ∧ (s.stor.refresh ≠ none ∨ pickReserve s x = none → Runs (.refreshCheck clean) s (fun t => t = s)))
      ∧ (s.sup.phase ≠ .dusk → isPs x = true → (areaSec psLog s (x - psBase)).st = .used → psErased s ≠ [] → sound →
          Runs (.refreshCheck clean) s (fun t => t.stor.nextCheck = (x + 1) % 4096 ∧ t.stor.refreshed = satInc s.stor.refreshed
            ∧ x ∈ t.stor.erasing ∧ areaSec psLog t (x - psBase) = { st := .erasing } ∧ only t))
      ∧ (s.sup.phase = .dusk → ∀ f, Runs (.refreshCheck f) s (fun t => t = s))
      ∧ (∀ k r, s.stor.refresh = some (k, r, .copied) → Runs .refreshDone s (fun t => t = s))
      ∧ (∀ k r, s.stor.refresh = some (k, r, .erased) → s.sup.phase = .dusk ∨ k ∈ s.stor.erasing → Runs .refreshDone s (fun t => t = s))
      ∧ (∀ k r, s.stor.refresh = some (k, r, .erased) → s.sup.phase ≠ .dusk → k ∉ s.stor.erasing → s.safe.logWait = [] → sound →
          Runs .refreshDone s (fun t =>
          t.stor.refresh = none ∧ t.stor.refreshed = satInc s.stor.refreshed ∧ wearOf t r = wearOf s r + 1 ∧ only t))
      ∧ (sector.val ∉ s.stor.erasing → ∀ ok, Runs (.sectorEraseDone sector ok) s (fun t => t = s))
      ∧ (sector.val ∈ s.stor.erasing → s.stor.retired = [] → headFull s = false →
          Runs (.sectorEraseDone sector true) s (fun t =>
              sector.val ∉ t.stor.erasing ∧ wearOf t sector = wearOf s sector + 1 ∧ t.stor.remap = s.stor.remap
                ∧ (∀ k : Nat, phys s k ≠ phys s sector → wearOf t k = wearOf s k)
                ∧ (isPs sector = true → areaSec psLog t (sector.val - psBase) = { st := .erased })
                ∧ (isDc sector = true → areaSec dcLog t (sector.val - dcBase) = { st := .erased }) ∧ only t)
            ∧ (∀ r, s.stor.remap.length < 512 → pickReserve s (phys s sector) = some r →
              Runs (.sectorEraseDone sector false) s (fun t =>
                sector.val ∉ t.stor.erasing ∧ t.stor.remap = s.stor.remap ++ [(phys s sector, r)]
                  ∧ (t.stor.remap0 = some t.stor.remap ∨ t.stor.remap1 = some t.stor.remap)
                  ∧ (∃ q, t.diary.raised = s.diary.raised ++ [q] ∧ q.code = 0xA001) ∧ only t)))
      ∧ Runs .optimeUpdate s (fun t => t = { s with stor := { s.stor with optime := s.opMs, optimeOk := true } })
      ∧ (∀ sec r, s.sup.phase ≠ .dusk → dcCurrent s 1 = some (sec, r) → r.prog < 255 → dcValue s 1 < 2 ^ 64 - 1 → AreaRoom dcLog s →
          dcValue s 1 < s.opMs / 60000 → Runs .operatingMinutes s (fun t =>
          dcValue t 1 = dcValue s 1 + 1 ∧ (∀ m, m ≠ 1 → dcValue t m = dcValue s m) ∧ only t))
      ∧ (s.sup.phase = .dusk ∨ s.opMs / 60000 ≤ dcValue s 1 → Runs .operatingMinutes s (fun t => t = s))

/-- R322, R324, R327, R331–R333: records are entered in the order raised with the next SEQ, or suppressed and counted when
their bucket is spent; the drain moves the oldest to the head sector; buckets refill; a reader gets the record it asks for. -/
def Obligations.DiaryEntersDrainsAndReads : Prop :=
  ∀ (s : State) (q : Word) (code : Half), s.up = true →
    let d := s.diary
    let h := d.host
    let reader (t : State) : DiaReader := t.diary.host
    let free (r : Raised) : Prop := d.fill = true ∨ s.sup.phase = .dusk ∨ severityOf r.code = 3 ∨ r.code = 0xB001
    let b (c : Half) : Bucket := bucketOf s c
    (∀ r rest, d.raised = r :: rest → d.lost = 0 → 256 ≤ journalFree s → free r ∨ (b r.code).spent < 64 →
        Runs .diaryEntry s (fun t => t.diary.raised = rest ∧ t.diary.nextSeq = d.nextSeq + 1
          ∧ t.diary.writeSlot = (d.writeSlot + 1) % 8190
          ∧ (∃ c, (c = t.diary.ctl0 ∨ c = t.diary.ctl1) ∧ c.nextSeq = d.nextSeq + 1 ∧ c.drainSeq = d.drainSeq
              ∧ c.writeSlot = (d.writeSlot + 1) % 8190 ∧ c.valid = true)
          ∧ (∃ x, t.diary.journal = d.journal ++ [x] ∧ x.seq = d.nextSeq ∧ x.code = r.code ∧ x.inst = r.inst ∧ x.opMs = s.opMs
              ∧ x.detail = padTo 24 r.detail ∧ x.flags.toNat % 4 = severityOf r.code
              ∧ x.count = (if d.fill || s.sup.phase == .dusk || severityOf r.code == 3 || r.code == 0xB001 then 1
                  else BitVec.ofNat 16 (1 + (b r.code).pending)))
          ∧ (¬free r → (bucketOf t r.code).spent = (b r.code).spent + 1 ∧ (bucketOf t r.code).pending = 0)))
      ∧ (∀ r rest, d.raised = r :: rest → d.lost = 0 → ¬free r → 64 ≤ (b r.code).spent → (b r.code).pending + 1 ≠ 65535 →
        Runs .diaryEntry s (fun t => t.diary.raised = rest ∧ t.diary.journal = d.journal ∧ t.diary.suppressed = satInc d.suppressed
          ∧ (bucketOf t r.code).pending = (b r.code).pending + 1))
      ∧ (∀ r rest, d.journal = r :: rest → d.lost = 0 → s.sup.phase ≠ .dusk → diaryRewrite s = false → s.stor.worn = [] →
          s.stor.retired = [] →
          ((ringSector s d.head).length + 1 < 1024 → Runs .diaryDrain s (fun t =>
            t.diary.journal = rest ∧ t.diary.drainSeq = r.seq + 1 ∧ ringSector t d.head = ringSector s d.head ++ [some r]
              ∧ t.diary.head = d.head ∧ (∀ k, k ≠ d.head → ringSector t k = ringSector s k) ∧ { t with diary := d } = s))
          ∧ ((ringSector s d.head).length + 1 = 1024 → diaryBase + d.readySec ∉ s.stor.erasing → diaryBase + d.readySec ∉ s.stor.abandoned →
            Runs .diaryDrain s (fun t => t.diary.journal = rest ∧ t.diary.drainSeq = r.seq + 1 ∧ t.diary.head = d.readySec)))
      ∧ (s.sup.phase = .dusk ∨ diaryRewrite s = true → Runs .diaryDrain s (fun t => t = s))
      ∧ (twf {} d.buckets = true → d.refillS < s.opMs / 1000 → Runs .bucketRefill s (fun t =>
          (∀ c, bucketOf t c = { b c with spent := (b c).spent - 1 }) ∧ t.diary.refillS = d.refillS + 1 ∧ { t with diary := d } = s))
      ∧ (s.opMs / 1000 ≤ d.refillS → Runs .bucketRefill s (fun t => t = s))
      ∧ (s.opMs < (b code).since + 60000 → Runs (.summary code) s (fun t => t = s))
      ∧ ((b code).pending ≠ 0 → (b code).since + 60000 ≤ s.opMs → 256 ≤ journalFree s → Runs (.summary code) s (fun t =>
          (bucketOf t code).pending = 0 ∧ ∃ x, t.diary.journal = d.journal ++ [x] ∧ x.code = code ∧ x.seq = d.nextSeq
            ∧ x.count = BitVec.ofNat 16 (b code).pending ∧ x.flags.getLsbD 3 = true))
      ∧ Runs .diaSnap s (fun t => reader t = { h with snap := some (d.nextSeq - 1, diaOldest s), empty := (present s).isEmpty }
          ∧ { t with free := s.free, diary := d } = s)
      ∧ (d.ready = true → h.snap ≠ none → h.empty = true →
          Runs (.diaCursorWrite q) s (fun t => reader t = { h with cursor := q, result := 3, request := none })
            ∧ Runs .diaNext s (fun t => reader t = { h with result := 3, request := none }))
      ∧ (d.ready = true → h.snap ≠ none → h.empty = false →
          Runs (.diaCursorWrite q) s (fun t => reader t = { h with cursor := q, result := 1, request := some q } ∧ { t with diary := d } = s)
            ∧ ∀ r, h.record = some r →
              Runs .diaNext s (fun t => reader t = { h with result := 1, request := some (r.seq + 1) } ∧ { t with diary := d } = s))
      ∧ (d.ready = true → h.snap = none → Runs .diaNext s (fun t => reader t = { h with result := 4, request := none }))
      ∧ (d.ready = false → Runs .diaNext s (fun t => reader t = { h with result := 5, request := none }))
      ∧ (∀ k head oldest, h.request = some k → h.snap = some (head, oldest) → Runs .diaryLoadDone s (fun t =>
          { t with diary := d } = s ∧ (reader t).request = none
            ∧ (diaFind s head oldest k = none → (reader t).result = 3 ∧ (reader t).record = h.record)
            ∧ ∀ x gap, diaFind s head oldest k = some (x, gap) →
                (reader t).result = 2 ∧ (reader t).record = some x ∧ (reader t).gap = satOf 16 (x.seq - k).toNat ∧ x ∈ present s))

/-! ### Clock (chapter 14) -/

/-- R337, R339–R346, R349: a commit or shift is staged and applies at its edge, answers BUSY, STATE, RANGE or INVALID_DATE
where its rule says so; the calendar counts; alarms take the new second; settings keep their range. -/
def Obligations.ClockCommandsApplyAtTheirEdge : Prop :=
    (∀ (s : State) (v : Word) (cmd : Byte), s.up = true →
    let r := s.rtc
    let cal := calOfSet r.set0 r.set1
    let idle := r.clkFail = false ∧ r.commit = none ∧ r.shift = none
    let next := calInc r.cal
    let withRtc (x : RtcSt) : State := { s with rtc := x }
    (idle → syncLocked s = false → calValid cal = true → Runs .commit s (fun t =>
        t = withRtc { r with commit := some (cal, r.set1.getLsbD 7), syncing := false, result := 1 }))
      ∧ (idle → syncLocked s = true → Runs .commit s (fun t => t = withRtc { r with result := 6 }))
      ∧ (idle → syncLocked s = false → calValid cal = false → Runs .commit s (fun t => t = withRtc { r with result := 2 }))
      ∧ (∀ i ∈ [Instr.commit, .summerAdd, .summerSub],
          (r.clkFail = true → Runs i s (fun t => t = withRtc { r with result := 4 }))
            ∧ (r.clkFail = false → r.commit ≠ none ∨ r.shift ≠ none → Runs i s (fun t => t = withRtc { r with result := 3 })))
      ∧ (idle → r.summer = false → calSeconds next + 3600 ≤ calSeconds calEnd →
          Runs .summerAdd s (fun t => t = withRtc { r with shift := some true, result := 1 }))
      ∧ (idle → r.summer = true → 3600 ≤ calSeconds next →
          Runs .summerSub s (fun t => t = withRtc { r with shift := some false, result := 1 }))
      ∧ (idle → r.summer = true → Runs .summerAdd s (fun t => t = withRtc { r with result := 4 }))
      ∧ (idle → r.summer = false → Runs .summerSub s (fun t => t = withRtc { r with result := 4 }))
      ∧ (idle → r.summer = false → calSeconds calEnd < calSeconds next + 3600 → Runs .summerAdd s (fun t => t = withRtc { r with result := 5 }))
      ∧ (idle → r.summer = true → calSeconds next < 3600 → Runs .summerSub s (fun t => t = withRtc { r with result := 5 }))
      ∧ (cmd.toNat = 0 ∨ 4 ≤ cmd.toNat → Runs (.rtcCmdUnknown cmd) s (fun t => t = withRtc { r with result := 7 }))
      ∧ (∀ c summer, r.commit = some (c, summer) → r.clkFail = false → Runs .commitApply s (fun t =>
          t.rtc.cal = c ∧ t.rtc.prescaler = 0 ∧ t.rtc.valid = true ∧ t.rtc.summer = summer ∧ t.rtc.commit = none
            ∧ t.rtc.result = (if r.syncing then r.result else 0)
            ∧ (alarmMatch r.almTime0 r.almCtrl0 c = true → t.rtc.alm0 = true)
            ∧ (alarmMatch r.almTime1 r.almCtrl1 c = true → t.rtc.alm1 = true)))
      ∧ (idle → r.cal ≠ calEnd → Runs .calendarSecond s (fun t => t.rtc.cal = next ∧ t.rtc.prescaler = 0 ∧ t.rtc.summer = r.summer
          ∧ (alarmMatch r.almTime0 r.almCtrl0 next = true → t.rtc.alm0 = true)
          ∧ (alarmMatch r.almTime1 r.almCtrl1 next = true → t.rtc.alm1 = true)))
      ∧ (idle → r.cal = calEnd → Runs .calendarSecond s (fun t => t = withRtc { r with prescaler := 32767 }))
      ∧ (∀ fwd, r.clkFail = false → r.commit = none → r.shift = some fwd → Runs .calendarSecond s (fun t =>
          t.rtc.cal = calShift fwd next ∧ t.rtc.summer = fwd ∧ t.rtc.shift = none ∧ t.rtc.result = 0))
      ∧ (r.pwronReq = true → Runs .pwronReqTimeout s (fun t => t = withRtc { r with pwronReq := false, wakeFail := true }))
      ∧ Runs (.rtcSettingWrite 0x0C18 v) s (fun t =>
          let o : Half := v.setWidth 16
          if -720 ≤ o.toInt ∧ o.toInt ≤ 840 then t.rtc = { r with utcOfs := o } else t = withRtc { r with result := 5 })
      ∧ Runs (.rtcSettingWrite 0x0C1C v) s (fun t =>
          if (v &&& 3).toNat ≤ 1 then t.rtc = { r with sync := v.setWidth 2 } else t = withRtc { r with result := 5 })
      ∧ Runs (.rtcSettingWrite 0x0C20 v) s (fun t =>
          let a := v &&& 0xFFFFFFF8
          if alarmInRange a = true ∧ alarmVoid a r.almCtrl0 = false then t.rtc = { r with almTime0 := a }
          else t = withRtc { r with result := 5 })
      ∧ Runs (.rtcSettingWrite 0x0C24 v) s (fun t => t.rtc.almCtrl0 = v.setWidth 8 ∧ t.rtc.almTime0 = r.almTime0
          ∧ (alarmVoid r.almTime0 (v.setWidth 8) = true → t.rtc.result = 5))
      ∧ (syncLocked s = true → s.net.plantNs / 1000000000 % 60 = 30 → r.clkFail = false →
          (1000000 ≤ absDiff (plantLocalNs s) (calNs r) → Runs .rtcSyncCompare s (fun t =>
              t = withRtc { r with syncAt := some (s.net.plantNs / 1000000000 + 1) }))
            ∧ (absDiff (plantLocalNs s) (calNs r) < 1000000 → Runs .rtcSyncCompare s (fun t => t = s)))
      ∧ (syncLocked s = false ∨ s.net.plantNs / 1000000000 % 60 ≠ 30 → Runs .rtcSyncCompare s (fun t => t = s))
      ∧ (r.clkFail = false → Runs .rtcClockFail s (fun t =>
          t.rtc = { r with clkFail := true, valid := false, syncAt := none } ∧ SignalsOnly s { t with rtc := r }))
      ∧ Runs .rtcClockRecovered s (fun t => t = withRtc { r with clkFail := false })
      ∧ Runs .brownOut s (fun t => t = s))
    ∧
    (∀ s : State, powerAbsent s = true → s.sup.inputLost = false ∨ s.sup.lossNs + 50000000 ≤ s.clockNs →
      Runs .brownOut s (fun t => t = { s with rtc := { s.rtc with brownOut := true } })
        ∧ ∀ i ∈ [Instr.rtcClockFail, .rtcClockRecovered], Runs i s (fun t => t = s))

/-! ### Supervisor (chapter 16) -/

/-- R372–R374: a loss of both inputs starts the ride-through, a return ends and counts it; Dusk, 10 ms after the loss or below
HOLDUP_LOW, releases the token, lets the outputs glide, abandons erases and holds reset; its internal reset saves the retain data.
The return threshold and HOLDUP_LOW stand at their typical values (log 25), and what is measured stays within Table 16-6 (log 12). -/
def Obligations.InputLossRideThroughAndDusk : Prop :=
  ∀ (s : State) (ps1 ps2 : Half) (second returned : Bool),
    let x := s.sup
    let ok (mv : Half) : Bool := decide (18800 ≤ mv.toNat)
    let only (t : State) : Prop := SignalsOnly s { t with sup := x, free := s.free }
    let measured (t : State) (y : SupSt) : SupSt := { y with holdup := t.sup.holdup, power := t.sup.power, holdAt := s.clockNs }
    (x.phase = .run ∨ x.phase = .recovery → x.riding = false → x.inputLost = false → Runs (.inputLoss ps1 ps2) s (fun t =>
        t.sup = measured t { x with
          ps1 := ps1, ps2 := ps2, ps1Ok := false, ps2Ok := false, riding := true, lossOp := s.opMs, inputLost := true
          lossNs := s.clockNs, backAt := none }
          ∧ x.holdup.toNat ≤ t.sup.holdup.toNat ∧ t.host.irq.getLsbD 6 = true ∧ only t))
      ∧ (s.up = true → x.ps1Ok = false → x.ps2Ok = false → Runs (.inputReturn ps1 ps2) s (fun t =>
          let hi := decide (ps2.toNat ≤ ps1.toNat)
          t.sup = measured t { x with
            ps1 := ps1, ps2 := ps2, ps1Ok := hi || ok ps1, ps2Ok := !hi || ok ps2, inputLost := false, backAt := some s.clockNs
            riding := false, rides := if x.riding then satInc x.rides else x.rides }
            ∧ t.host.irq.getLsbD 6 = true ∧ only t))
      ∧ (s.up = true → (if second then x.ps1Ok else x.ps2Ok) = true → Runs (.supplyInput second returned ps1) s (fun t =>
          t.sup = (if second then { x with ps2 := ps1, ps2Ok := returned } else { x with ps1 := ps1, ps1Ok := returned })
            ∧ SignalsOnly s { t with sup := x }
            ∧ ∃ r, t.diary.raised = s.diary.raised ++ [r] ∧ r.code = 0xF004
                ∧ fieldB r.detail 0 = (if returned then 3 else 1) + (if second then 1 else 0)))
      ∧ (x.riding = true → x.phase = .run → x.lossNs + 10000000 ≤ s.clockNs ∨ x.inputLost = true ∧ x.holdup.toNat < 34000 →
          Runs .dusk s (fun t =>
          t.sup.phase = .dusk ∧ t.sup.riding = false ∧ t.sup.rstOutLow = true ∧ t.red.oe = false ∧ t.red.token = false
            ∧ t.host.irq.getLsbD 6 = true ∧ t.stor.erasing = [] ∧ DiesGlide s t ∧ (∃ r ∈ t.diary.raised, r.code = 0xF002)
            ∧ t.sup.ending ≠ none))
      ∧ (s.clockNs < x.lossNs + 10000000 → x.inputLost = true →
          34000 * 34000 + 40 * (s.clockNs - x.holdAt) ≤ x.holdup.toNat * x.holdup.toNat → Runs .dusk s (fun t => t = s))
      ∧ (x.phase = .dusk → x.ending ≠ none → s.run.loaded = true → Quiet s → Runs .duskInternalReset s (fun t =>
          AfterReset s t 0x02 0xFF 0 ∧ DiesGlide s t ∧ t.img.noSave = false
            ∧ ∃ b, (bankOf t b).valid = true ∧ (bankOf t b).gen = s.gen ∧ (bankOf t b).saved = s.opMs))

/-- R3, R29, R376–R380, R382–R385, R396, Table 16-9: what resets the module, with the cause it latches; presses that do not reset, the stuck
button, temperatures with their warnings and release. -/
def Obligations.ResetsButtonAndTemperatures : Prop :=
    (∀ (s : State) (ms openMs : Nat) (u : Fin 16) (c : ChanId),
      let x := s.sup
      (x.phase = .run → x.ending = none → Quiet s →
          (∀ ns, 10000 ≤ ns → Runs (.rstN ns) s (fun t => AfterReset s t 0x03 0xFF 0 ∧ DiesGlide s t ∧ t.img.noSave = false))
            ∧ (∀ ns, 1000 ≤ ns → ns < 10000 → Runs (.rstN ns) s (fun t =>
                t = { s with free := s.free + 1 } ∨ AfterReset s t 0x03 0xFF 0 ∧ DiesGlide s t))
            ∧ (x.stuck = false → x.button = true → x.pressWin = false → 50 ≤ ms → ms < 10000 →
                Runs (.buttonRelease ms) s (fun t => AfterReset s t 0x04 0xFF 0 ∧ DiesGlide s t))
            ∧ (x.stuck = false → x.patternOpen = true → x.pattern = 4 → ms < 3000 →
                Runs (.buttonPress ms openMs) s (fun t => AfterReset s t 0x05 0xFF 0 ∧ DiesGlide s t ∧ t.sup.recoveryReq = true))
            ∧ Runs .thermalShutdown s (fun t => AfterReset s t 0x14 0xFF 0 ∧ DiesGlide s t ∧ t.sup.thermHold = true))
        ∧ (x.phase ≠ .reset →
            (∀ self, Runs (.chipLevelError self u) s (fun t => AfterReset s t (if self then 0x13 else 0x10) (BitVec.ofNat 8 u.val) 0
                ∧ t.img.noSave = true))
            ∧ (∀ p ∈ [(WdUnit.timetable, (3 : Byte)), (.service, 14), (.supervisor, 15)],
                Runs (.supervisorWatchdog p.1) s (fun t => AfterReset s t 0x12 p.2 0 ∧ DiesGlide s t ∧ t.img.noSave = true))
            ∧ (∀ p ∈ [(ClockDomain.ckFab, (0 : Byte)), (.ckFbe, 1), (.ckImg, 2), (.ckSvc, 3), (.ckNet, 5)],
                Runs (.clockLoss p.1) s (fun t => AfterReset s t 0x11 0xFF p.2 ∧ t.img.noSave = true))
            ∧ (s.variant.safety = true →
                Runs (.clockLoss .ckSafe) s (fun t => AfterReset s t 0x11 0xFF 4 ∧ t.img.noSave = true))
            ∧ Runs (.clockLoss .ckRef) s (fun t => AfterReset s t 0x11 0xFF 9 ∧ t.sup.refLost = true))
        ∧ (∀ ns, ns < 1000 → Runs (.rstN ns) s (fun t => t = s))
        ∧ (s.variant.safety = false → Runs (.clockLoss .ckSafe) s (fun t => t = s))
        ∧ Runs (.clockLoss .ckPcie) s (fun t => t = { s with host := { s.host with pcieUp := false } })
        ∧ Runs (.clockLoss (.channel c)) s (fun t =>
            t.chan c = { s.chan c with die := { (s.chan c).die with clkFail := true } } ∧ ChanOnly s t c))
    ∧
    (∀ (s : State) (ms openMs : Nat) (base die : Half),
      let x := s.sup
      let withSup (y : SupSt) : State := { s with sup := y }
      (x.phase ≠ .reset → 3000 ≤ ms →
          Runs (.buttonPress ms openMs) s (fun t => t = withSup { x with button := true, pressWin := false }))
        ∧ (x.phase ≠ .reset → x.stuck = false → x.patternOpen = true → x.pattern ≠ 4 → ms < 3000 →
            Runs (.buttonPress ms openMs) s (fun t => t = withSup { x with
              button := true, pressWin := true, pattern := if x.pattern = 2 ∧ 50 ≤ openMs ∧ openMs ≤ 2000 then 3 else 1 }))
        ∧ (x.phase ≠ .reset → x.stuck = false → x.button = true → x.pressWin = true → Runs (.buttonRelease ms) s (fun t =>
            t = withSup { x with
              button := false, pressWin := false
              pattern := if x.pattern = 1 ∧ 50 ≤ ms ∧ ms ≤ 2000 then 2 else if x.pattern = 3 ∧ 50 ≤ ms then 4 else 0 }))
        ∧ (x.phase ≠ .reset → x.stuck = false → x.button = true → x.pressWin = false → ms < 50 → Runs (.buttonRelease ms) s (fun t =>
            t = withSup { x with button := false, btnIgnored := satInc x.btnIgnored }))
        ∧ (x.phase ≠ .reset → x.button = true → x.stuck = false → Runs .buttonStuck s (fun t =>
            t.sup = { x with stuck := true, btnStuckN := satInc x.btnStuckN } ∧ SignalsOnly s { t with sup := x }
              ∧ ∃ r, t.diary.raised = s.diary.raised ++ [r] ∧ r.code = 0xF005))
        ∧ (x.button = false → Runs .buttonStuckClear s (fun t => t = withSup { x with stuck := false }))
        ∧ Runs (.thermalWarning base die) s (fun t =>
            let y := t.sup
            y.tempBase = base ∧ y.tempDie = die ∧ y.maxBase.toInt = max x.maxBase.toInt base.toInt
              ∧ y.maxDie.toInt = max x.maxDie.toInt die.toInt
              ∧ y.thermWarn = (if 680 ≤ base.toInt then true else if base.toInt < 656 then false else x.thermWarn)
              ∧ y.dieWarn = (if 920 ≤ die.toInt then true else if die.toInt < 880 then false else x.dieWarn)
              ∧ SignalsOnly s { t with sup := x })
        ∧ (die.toInt < 800 → Runs (.thermalRelease die) s (fun t =>
            t.sup.tempDie = die ∧ t.sup.thermHold = false ∧ t.sup.dieWarn = false ∧ t.sup.tempBase = x.tempBase
              ∧ t.sup.maxDie.toInt = max x.maxDie.toInt die.toInt ∧ SignalsOnly s { t with sup := x }))
        ∧ (800 ≤ die.toInt → Runs (.thermalRelease die) s (fun t => t = s)))

/-- R44, R114, R363, R375: a Dawn with good units, on a module whose records name no update, runs the flash's image from bank A:
the host port answers, storage and Diary are ready and the tasks stand IDLE; a shared unit that fails its self-test resets
again. A Dawn does not begin while the die is hot, CK_REF is lost or an input has not been present for 20 ms. -/
def Obligations.DawnRunsTheFlashImage : Prop :=
  ∀ (s : State) (d : DawnIn),
    let free := s.sup.phase = .reset ∧ s.sup.thermHold = false ∧ (s.sup.refLost = false ∨ d.refOk = true) ∧ inputSteady s = true
    (¬free → Runs (.dawn d) s (fun t => t = s))
      ∧ (free → d.sharedFail = none → d.bankOk = true → d.safetyOk = true → s.upd.recs = [] → s.upd.bankA.valid = true →
        s.sup.recoveryReq = false → Runs (.dawn d) s (fun t =>
        t.sup.phase = .run ∧ t.sup.rstOutLow = false ∧ t.sup.dawnMs = d.ms ∧ 38000 ≤ t.sup.holdup.toNat ∧ t.now = 0 ∧ t.stor.ready = true ∧ t.diary.ready = true
          ∧ t.upd.bankB = false ∧ t.run = s.cfg.flash ∧ t.gen = s.cfg.flashGen
          ∧ (s.cfg.flash.pair = false → d.regionFail = 0 → ∀ k : TaskId, (taskCfg s.cfg.flash k).kind ≠ 4 →
              (t.task k).st = (if (taskCfg s.cfg.flash k).kind = 0 then .unused else .idle) ∧ (t.task k).actCnt = 0)))
      ∧ (∀ u, free → d.sharedFail = some u → Runs (.dawn d) s (fun t =>
          t.sup.phase = .reset ∧ t.sup.code = 0x13 ∧ t.sup.source = BitVec.ofNat 8 u.val ∧ t.img.noSave = true ∧ t.tasks = s.tasks))

/-! ### Engineering service (chapters 09, 10) -/

/-- R234–R236, R240, Table 9-13: sessions open, close and lose their rights; HELLO, RELEASE and NOTIFY; a request before HELLO, of
an unlisted OP or without write rights is refused. -/
def Obligations.EngineeringSessionsAndRefusals : Prop :=
  ∀ (s : State) (r : EsReq) (i : SesId) (cert : List Byte) (len : Word) (op : Half), s.running = true →
    let x := sesOf s r.ses
    let y := sesOf s i
    let served := x.opened = true ∧ x.queue = [] ∧ x.stream = [] ∧ esWaiting s r.ses = false ∧ r.flags = 0
    let outside := len.toNat < 16 ∨ 65600 < len.toNat
    let flag (n : Nat) : Bool := (fieldB r.body 0).getLsbD n
    let trusted := (anchors s).any (fun a => Config.certAccepted a.2 cert)
    let closed (t : State) : Prop := sesOf t i = {} ∧ (∀ k, k ≠ i → sesOf t k = sesOf s k) ∧ t.mb = s.mb ∧ t.cfg = s.cfg
    (served → r.body.length = 4 → field r.body 0 4 < 4 → Runs (.hello r) s (fun t =>
        let grant := x.write || (flag 0 && !s.es.s0.write && !s.es.s1.write)
        (∃ body, EsAnswers s t r 0x01 0 body ∧ body.length = 28 ∧ field body 20 4 = grant.toNat)
          ∧ (sesOf t r.ses).hello = true ∧ (sesOf t r.ses).write = grant ∧ (sesOf t r.ses).notify = flag 1))
      ∧ (EsReady s r → r.body = [] → Runs (.release r) s (fun t =>
          EsAnswers s t r 0x02 0 [] ∧ EsOnly (modSes r.ses (fun z => { z with write := false }) s) t r.ses))
      ∧ (served → x.hello = false → r.body.length = 8 → Runs (.regRead r) s (fun t => EsAnswers s t r 0x10 5 [] ∧ EsOnly s t r.ses))
      ∧ (EsReady s r → opListed op.toNat = false → Runs (.unknownOp op r) s (fun t => EsAnswers s t r op.toNat 3 [] ∧ EsOnly s t r.ses))
      ∧ (EsReady s r → x.write = false → r.body.length = 8 →
          Runs (.forceSet r) s (fun t => EsAnswers s t r 0x30 1 [] ∧ EsOnly s t r.ses))
      ∧ (trusted = true → s.es.s0.opened = false → Runs (.sessionOpen cert) s (fun t =>
          t = { s with es := { s.es with s0 := { opened := true, cert := cert } } }))
      ∧ (trusted = true → s.es.s0.opened = true → s.es.s1.opened = false → Runs (.sessionOpen cert) s (fun t =>
          t = { s with es := { s.es with s1 := { opened := true, cert := cert } } }))
      ∧ (trusted = false ∨ (s.es.s0.opened = true ∧ s.es.s1.opened = true) → Runs (.sessionOpen cert) s (fun t => t = s))
      ∧ Runs (.sessionClose i) s closed
      ∧ (outside → y.opened = true → y.queue = [] → y.stream = [] → Runs (.badLengthMessage i len) s closed)
      ∧ (¬outside ∨ y.opened = false → Runs (.badLengthMessage i len) s (fun t => t = s))
      ∧ (y.lastNs + 60000000000 ≤ s.now → Runs (.sessionIdle i) s (fun t => t = modSes i (fun z => { z with write := false }) s))
      ∧ (s.now < y.lastNs + 60000000000 → Runs (.sessionIdle i) s (fun t => t = s))
      ∧ (y.notify = false ∨ y.bits = 0 ∨ notifyDue y s.clockNs = false → Runs (.notify i) s (fun t => t = s))
      ∧ (y.notify = true → y.bits ≠ 0 → notifyDue y s.clockNs = true → Runs (.notify i) s (fun t =>
          (sesOf t i).noteNs = some s.clockNs ∧ (sesOf t i).resp = esMessage 0xF0 2 0 0 (leBytes 4 y.bits.toNat) ∧ (sesOf t i).bits = 0 ∧ (sesOf t i).sent = y.sent + 1
            ∧ (∀ k, k ≠ i → sesOf t k = sesOf s k)))

/-- R237, R388, R391, Table 9-13: registers are read and written as by the host, images from one snapshot, and EXEC runs a
mailbox command on its own path. -/
def Obligations.EngineeringReadsWritesAndExec : Prop :=
  ∀ (s : State) (r : EsReq), EsReady s r →
    let b := r.body
    let a := field b 0 4
    let n := field b 4 4
    let w := sesOf s r.ses
    (b.length = 8 → a % 4 = 0 → 1 ≤ n → n ≤ 1024 → a + 4 * n ≤ 0x10000 → Runs (.regRead r) s (fun t =>
        ∃ body, EsAnswers s t r 0x10 0 body ∧ body.length = 4 * n ∧ (a = 0x14 → body.take 4 = wordBytes s.gen)
          ∧ (a ≤ 0x800 → 0x800 < a + 4 * n → (body.drop (0x800 - a)).take 4 = wordBytes (tget 0 s.mb.args 0))))
      ∧ (w.write = true → b.length = 12 → a = 0x800 → n = 1 → Runs (.regWrite r) s (fun t =>
          EsAnswers s t r 0x11 0 []
            ∧ EsOnly { s with mb := { s.mb with args := tset 0 s.mb.args 0 (fieldW b 8) } } t r.ses))
      ∧ (b.length = 12 → a ≤ 1 → 1 ≤ field b 8 4 → field b 8 4 ≤ 4096 → n + field b 8 4 ≤ 32768 → Runs (.imageRead r) s (fun t =>
          EsOnly s t r.ses ∧ ∃ body, EsAnswers s t r 0x12 0 (leBytes 4 (s.tbrd % 2 ^ 32) ++ body) ∧ body.length = 8 * field b 8 4
            ∧ ∀ k < field b 8 4, let v := if a = 0 then s.iwGet (n + k) else s.qwGet (n + k)
                (body.drop (8 * k)).take 8 = wordBytes v.data ++ wordBytes v.tag))
      ∧ (36 ≤ b.length → b.length ≤ 65572 → a = 0 → Runs (.execCmd r) s (fun t =>
          EsAnswers s t r 0x20 0 (List.replicate 292 0) ∧ EsOnly s t r.ses))
      ∧ (36 ≤ b.length → b.length ≤ 65572 → a = 0x43 → w.write = true → s.es.busy = none → Runs (.execCmd r) s (fun t =>
          EsAnswers s t r 0x20 0 (List.replicate 292 0) ∧ EsOnly { s with mb := { s.mb with upload := none } } t r.ses))
      ∧ (36 ≤ b.length → b.length ≤ 65572 → a = 0x43 → w.write = true → s.es.busy ≠ none → Runs (.execCmd r) s (fun t =>
          EsAnswers s t r 0x20 4 [] ∧ EsOnly s t r.ses))

/-- R131, R132, R238, Tables 9-13: force and simulation entries are set, replaced and cleared one by one or all; the lists read
them back. -/
def Obligations.ForcesAndSimulationsAreSetAndCleared : Prop :=
  ∀ (s : State) (r : EsReq), EsReady s r →
    let b := r.body
    let w := fieldW b 0
    let out := w.getLsbD 15
    let n := w.toNat % 32768
    let f : ForceEntry := ⟨out, n, fieldW b 4, 0⟩
    let g : ForceEntry := ⟨false, n, fieldW b 4, BitVec.ofNat 2 (field b 8 4)⟩
    let room (l : List ForceEntry) (e : ForceEntry) : Prop := l.length < 512 ∨ ∃ x ∈ l, x.out = e.out ∧ x.num = e.num
    let named := w.toNat < 65536 ∧ (routeOf s.run out n).isSome = true
    let others (t : State) : Prop := ∀ o k, (o, k) ≠ (out, n) → forceFor t o k = forceFor s o k
    let rights := (sesOf s r.ses).write = true
    (rights → b.length = 8 → named → room s.img.forces f → Runs (.forceSet r) s (fun t =>
        EsAnswers s t r 0x30 0 (leBytes 4 t.img.forces.length) ∧ forceFor t out n = some f ∧ others t ∧ t.img.sims = s.img.sims))
      ∧ (rights → b.length = 8 → named → ¬room s.img.forces f → Runs (.forceSet r) s (fun t =>
          EsAnswers s t r 0x30 6 [] ∧ EsOnly s t r.ses))
      ∧ (rights → b.length = 4 → named → Runs (.forceClear r) s (fun t =>
          EsAnswers s t r 0x31 0 (leBytes 4 t.img.forces.length) ∧ forceFor t out n = none ∧ others t))
      ∧ (rights → b.length = 4 → w = 0xFFFFFFFF → Runs (.forceClear r) s (fun t =>
          EsAnswers s t r 0x31 0 [0, 0, 0, 0] ∧ t.img.forces = [] ∧ t.img.sims = s.img.sims))
      ∧ (b = [] → Runs (.forceList r) s (fun t => EsOnly s t r.ses ∧ EsAnswers s t r 0x32 0
          (leBytes 4 s.img.forces.length ++ s.img.forces.flatMap (fun e => leBytes 4 (entryIndex e).toNat ++ wordBytes e.data))))
      ∧ (rights → b.length = 12 → named → out = false → field b 8 4 ≤ 3 → (∀ e ∈ s.img.sims, e.out = false) → room s.img.sims g →
          Runs (.simSet r) s (fun t => EsAnswers s t r 0x33 0 (leBytes 4 t.img.sims.length) ∧ simFor t n = some g
            ∧ (∀ k, k ≠ n → simFor t k = simFor s k) ∧ t.img.forces = s.img.forces))
      ∧ (rights → b.length = 4 → named → out = false → (∀ e ∈ s.img.sims, e.out = false) → Runs (.simClear r) s (fun t =>
          EsAnswers s t r 0x34 0 (leBytes 4 t.img.sims.length) ∧ simFor t n = none ∧ ∀ k, k ≠ n → simFor t k = simFor s k))
      ∧ (rights → b.length = 4 → w = 0xFFFFFFFF → Runs (.simClear r) s (fun t =>
          EsAnswers s t r 0x34 0 [0, 0, 0, 0] ∧ t.img.sims = []))
      ∧ (b = [] → Runs (.simList r) s (fun t => EsOnly s t r.ses ∧ EsAnswers s t r 0x35 0
          (leBytes 4 s.img.sims.length
            ++ s.img.sims.flatMap (fun e => leBytes 4 e.num ++ wordBytes e.data ++ leBytes 4 e.qual.toNat))))

/-- R239, Tables 9-13 to 9-15: the station's own Diary reader, the clock as the host sets it, settings that read back. -/
def Obligations.EngineeringDiaryClockAndSettings : Prop :=
  ∀ (s : State) (r : EsReq), EsReady s r →
    let b := r.body
    let q := fieldW b 0
    let id := field b 0 4
    let v := b.drop 8
    let d := s.diary
    let cal := calOfSet (q &&& 0xFFFF8000) (fieldW b 4 &&& 0xFFFFF880)
    let rights := (sesOf s r.ses).write = true
    (b = [] → Runs (.diarySnap r) s (fun t =>
        EsAnswers s t r 0x40 0 (wordBytes (d.nextSeq - 1) ++ wordBytes (diaOldest s))
          ∧ t.diary = { d with es := { d.es with snap := some (d.nextSeq - 1, diaOldest s), empty := (present s).isEmpty } }))
      ∧ (b.length = 8 → field b 4 4 = 1 → d.ready = true → d.es.empty = false → ∀ head oldest x gap, d.es.snap = some (head, oldest) →
          diaFind s head oldest q = some (x, gap) → Runs (.diaryRead r) s (fun t =>
          EsAnswers s t r 0x41 0 (leBytes 4 2 ++ leBytes 4 (min (x.seq - q).toNat 0xFFFF) ++ leBytes 4 1 ++ recBytes x)
            ∧ t.diary.es.record = some x ∧ t.diary.host = d.host))
      ∧ (b.length = 8 → field b 4 4 = 1 → d.ready = false → Runs (.diaryRead r) s (fun t =>
          EsAnswers s t r 0x41 0 (leBytes 4 5 ++ leBytes 4 0 ++ leBytes 4 0)))
      ∧ (rights → b.length = 12 → fieldB b 8 = 1 → s.rtc.clkFail = false → s.rtc.commit = none → s.rtc.shift = none →
          syncLocked s = false → calValid cal = true → Runs (.clockSet r) s (fun t => EsAnswers s t r 0x50 0 (leBytes 4 1)
            ∧ t.rtc = { s.rtc with commit := some (cal, (fieldW b 4).getLsbD 7), syncing := false, result := 1 }))
      ∧ (b.length = 4 → (settingPage id).isSome = true → Runs (.settingRead r) s (fun t =>
          ((∀ k, (psContent s k).2 = false) → EsOnly s t r.ses) ∧ EsAnswers s t r 0x60 0 (leBytes 4 ((setting s id).getD []).length ++ (setting s id).getD [])))
      ∧ (rights → b.length = 8 + field b 4 4 → settingValid id v = true → dropsLastAnchor s id v = false → v.length ≤ 254 →
          StoreRoom s → pageRate s v = true → Runs (.settingWrite r) s (fun t => EsAnswers s t r 0x61 0 [] ∧ setting t id = some v
            ∧ ∀ k, settingPage id ≠ some k → psContent t k = psContent s k))
      ∧ (rights → b.length = 8 + field b 4 4 → settingValid id v = true → dropsLastAnchor s id v = false → pageRate s v = false →
          Runs (.settingWrite r) s (fun t => EsAnswers s t r 0x61 4 [] ∧ EsOnly s t r.ses))

/-- R268–R271, Tables 10-14, 10-15: a right password accepts a seal, changes itself and clears the log, each with its record; a
wrong one is counted; the log reads back; recovery boot erases. -/
def Obligations.SafetySealPasswordAndChangeLog : Prop :=
  ∀ (s : State) (r : EsReq), (sesOf s r.ses).write = true → s.variant.safety = true →
    let b := r.body
    let pw := passwordIn b 0
    let g := s.safe
    let right := passwordSet s = true ∧ pwLocked s = false ∧ passwordIs s pw = true
    let appended (t : State) (old : List LogRec) (kind : Byte) (crc ver value : Word) : Prop :=
      ∃ x, t.safe.log = old ++ [x] ∧ x.seq = g.logSeq ∧ x.kind = kind ∧ x.crc = crc ∧ x.ver = ver ∧ x.value = value ∧ x.opMs = s.opMs
        ∧ x.session = padTo 16 ((sha256 (sesOf s r.ses).cert).take 16) ∧ t.safe.logSeq = g.logSeq + 1
    let acc := g.accSeal.getD (0, 0)
    let sound := s.stor.refresh = none ∧ s.stor.worn = [] ∧ s.stor.retired = []
    (EsReady s r → b.length = 40 → right → (∀ a, g.accSeal = some a → a.2 < fieldW b 36) → 64 < logFree s → sound →
        Runs (.safetySeal r) s (fun t => EsAnswers s t r 0x70 0 [0, 0, 0, 0] ∧ t.safe.accSeal = some (fieldW b 32, fieldW b 36)
          ∧ t.safe.wrong = 0 ∧ appended t g.log 1 (fieldW b 32) (fieldW b 36) 0))
      ∧ (EsReady s r → b.length = 40 → pwLocked s = false → passwordSet s = true → passwordIs s pw = false → g.wrong < 4 →
          Runs (.safetySeal r) s (fun t => EsAnswers s t r 0x70 0 [3, 0, 0, 0]
            ∧ EsOnly { s with safe := { g with wrong := g.wrong + 1 } } t r.ses))
      ∧ (EsReady s r → b.length = 40 → pwLocked s = false → passwordSet s = true → passwordIs s pw = false → 4 ≤ g.wrong →
          Runs (.safetySeal r) s (fun t => EsAnswers s t r 0x70 0 [3, 0, 0, 0] ∧ t.safe.lockEnd = some (s.opMs + 600000)
            ∧ t.safe.wrong = 0 ∧ t.safe.accSeal = g.accSeal))
      ∧ (EsReady s r → b.length = 40 → pwLocked s = true → Runs (.safetySeal r) s (fun t =>
          EsAnswers s t r 0x70 0 [2, 0, 0, 0] ∧ EsOnly s t r.ses))
      ∧ (EsReady s r → b.length = 64 → passwordSet s = false → pwLocked s = false → (b.take 32).all (· == 0) = true →
          passwordOk (passwordIn b 32) = true → logFree s ≠ 0 → StoreRoom s → sound →
          pageRate s (pwHash (passwordIn b 32)) = true → Runs (.safetyPassword r) s (fun t =>
          EsAnswers s t r 0x71 0 [0, 0, 0, 0] ∧ passwordIs t (passwordIn b 32) = true ∧ appended t g.log 3 0 0 0))
      ∧ (EsReady s r → b.length = 32 → right → (logKeep g.log).length < 32768 → sound → Runs (.safetyLogClear r) s (fun t =>
          EsAnswers s t r 0x72 0 ([0, 0, 0, 0] ++ leBytes 4 (g.log.length - (logKeep g.log).length))
            ∧ appended t (logKeep g.log) 6 acc.1 acc.2 (natAt 0 (g.log.length - (logKeep g.log).length))))
      ∧ (EsReady s r → b.length = 8 → 1 ≤ field b 4 4 → field b 4 4 ≤ 1000 → Runs (.safetyLogRead r) s (fun t =>
          let l := (g.log.filter (fun x => decide ((x.seq - fieldW b 0).toNat < 2 ^ 31))).take (field b 4 4)
          EsAnswers s t r 0x74 0 (leBytes 4 l.length ++ l.flatMap logBytes) ∧ EsOnly s t r.ses))
      ∧ (EsReady s r → b = [] → g.st = .stop → Runs (.safetyRestart r) s (fun t =>
          t.safe.st = .selftest ∧ t.es.safeRestart = some r.ses ∧ (sesOf t r.ses).queue = [(0x73, r)]
            ∧ (sesOf t r.ses).sent = (sesOf s r.ses).sent))
      ∧ (s.sup.phase = .recovery → (sesOf s r.ses).opened = true → (sesOf s r.ses).hello = true → (sesOf s r.ses).queue = [] →
          (sesOf s r.ses).stream = [] → esWaiting s r.ses = false → r.flags = 0 → b = [] → logFree s ≠ 0 → StoreRoom s → sound → pageRate s [] = true →
          Runs (.safetyErase r) s (fun t =>
          EsAnswers s t r 0x75 0 [] ∧ t.safe.accSeal = none ∧ t.cfg.flash.safety = none ∧ passwordSet t = false
            ∧ appended t g.log 7 acc.1 acc.2 0))
      ∧ (∀ e, g.lockEnd = some e → e ≤ s.opMs → Runs .lockoutEnd s (fun t => t = { s with safe := { g with lockEnd := none } }))

/-! ### Safety subsystem (chapter 10) -/

/-- R245, R246, R248, R250, R251, R253, R256, Table 10-1: what stops the subsystem, with its cause and the safety tasks in FAULT: the
comparator stops it where SB's value is not the complement of SA's, the clock and the watchdog where their limits are reached; the
self-test of a SAFETY_RESTART; a run starts at ENTRY with SAFE_IN captured; a discrepancy that lasts is a FAULT. That SB's side is
held as SA's complement is log 40, that FAULT tasks of KIND 4 with cause 2 start again log 28, the Lesson 0xFFFF of a safety run log 10, that the safety timebase is
module time since the self-test log 9. -/
def Obligations.SafetySubsystemRunsAndStops : Prop :=
  ∀ (s : State) (ppm : Nat) (k : Fin 24) (tk : TaskId), s.up = true →
    let g := s.safe
    let sa : Word := (s.engine safeEng).pc.setWidth 32
    let p := pairOf s k
    let wd (u : TaskId) : Option Nat := (spTaskOf (safeParams s.run) u).map (fun e => field e 8 4 * 1000)
    let stopped (code : BitVec 4) (at_ : Word) (t : State) : Prop :=
      t.safe.st = .stop ∧ t.safe.cause = code ∧ t.safe.failPc = at_ ∧ (t.engine safeEng).run = .free ∧ t.host.irq.getLsbD 4 = true
        ∧ (∀ u : TaskId, (s.tcfg u).kind = 4 → (s.task u).st ≠ .stopped → (s.task u).st ≠ .fault → (s.task u).st ≠ .unused →
            offInRecess s u = false → (t.task u).st = .fault ∧ (t.task u).cause = 2)
        ∧ (∀ u : TaskId, (s.tcfg u).kind ≠ 4 → t.task u = s.task u) ∧ t.shared = s.shared
    (g.st = .run → s.red.st = .single →
        (∀ seen : Dword,
            (∀ lane, saValue s lane ≠ ~~~seen → Runs (.safeStop (.mismatch lane) seen) s (stopped 1 sa))
              ∧ Runs (.safeStop .ecc seen) s (stopped 2 sa)
              ∧ (10000 < seen.toNat → Runs (.safeStop .clock seen) s (stopped 3 sa))
              ∧ (safeWdDue s = true → Runs (.safeStop .watchdog seen) s (stopped 4 sa))
              ∧ Runs (.safeStop .selftest seen) s (stopped 5 sa))
          ∧ (10000 < ppm → Runs (.safeClockCheck ppm) s (stopped 3 sa))
          ∧ Runs (.spareLaneTest false) s (stopped 5 sa)
          ∧ (∀ u l w, (s.engine safeEng).run = .lesson u l → wd u = some w → w ≤ s.now - g.runStart →
              Runs .safeWatchdog s (stopped 4 sa)))
      ∧ (∀ seen : Dword,
          (∀ lane, saValue s lane = ~~~seen → Runs (.safeStop (.mismatch lane) seen) s (fun t => t = s))
            ∧ (seen.toNat ≤ 10000 → Runs (.safeStop .clock seen) s (fun t => t = s))
            ∧ (safeWdDue s = false → Runs (.safeStop .watchdog seen) s (fun t => t = s)))
      ∧ (ppm ≤ 10000 → Runs (.safeClockCheck ppm) s (fun t => t = s))
      ∧ Runs (.spareLaneTest true) s (fun t => t = s)
      ∧ ((s.engine safeEng).run = .free → Runs .safeWatchdog s (fun t => t = s))
      ∧ (∀ u l w, (s.engine safeEng).run = .lesson u l → wd u = some w → s.now - g.runStart < w → Runs .safeWatchdog s (fun t => t = s))
      ∧ (g.st = .selftest → s.es.safeRestart = none → s.run.safety.isSome = true → Runs (.safetySelftest true) s (fun t =>
          t.safe.st = .run ∧ t.safe.cause = 0 ∧ t.safe.tbBase = s.now ∧ t.safe.safeIn = [] ∧ t.safe.safeOut = []
            ∧ (s.sup.phase = .run → loadRuns s = false → ∀ u : TaskId, (s.tcfg u).kind = 4 → (s.task u).st = .fault → (s.task u).cause = 2 →
                (t.task u).st = .idle ∧ (t.task u).cause = 0 ∧ (t.task u).actCnt = 0)))
      ∧ (g.st = .selftest → s.es.safeRestart = none → s.red.st = .single → Runs (.safetySelftest false) s (stopped 5 sa))
      ∧ (∀ i op r pass, g.st = .selftest → s.es.safeRestart = some i → (sesOf s i).queue = [(op, r)] → (sesOf s i).stream = [] →
          s.red.st = .single →
          Runs (.safetySelftest pass) s (fun t => t.es.safeRestart = none ∧ (sesOf t i).queue = []
            ∧ (sesOf t i).resp = esMessage op.toNat 1 r.reqId 0 (wordBytes (safetyReg t 0))))
      ∧ (∀ e, g.st = .run → (s.engine safeEng).run = .free → safeWaits s tk = true →
          (∀ u : TaskId, safeWaits s u = true → rankBefore s tk u = true) → spTaskOf (safeParams s.run) tk = some e → standby s = false →
          Runs (.safetyRun tk) s (fun t =>
            let x := t.engine safeEng
            x.run = .lesson tk 0xFFFF ∧ x.w = [] ∧ x.pc = BitVec.ofNat 64 (field e 4 4)
              ∧ { x with run := .free, w := (s.engine safeEng).w, pc := (s.engine safeEng).pc } = s.engine safeEng
              ∧ (∀ f : Nat, f ≠ safeEng → t.engine f = s.engine f)
              ∧ (∀ a < 0x4400, readByte t.safe.safeIn a = readByte (captureSafeIn s) a) ∧ t.safe.runStart = s.now
              ∧ { t with engines := s.engines, red := s.red, safe := { t.safe with safeIn := g.safeIn, runStart := g.runStart } } = s))
      ∧ (∀ b, g.st = .run → p.st = .discrepant → p.since = some b → b + p.tMs * 1000 + pairFilterUs s k ≤ s.tbrd →
          Runs (.discrepancyFault k) s (fun t => pairOf t k = { p with st := .fault, safe := false }
            ∧ (∀ j : Nat, j ≠ k.val → pairOf t j = pairOf s j) ∧ { t with safe := { t.safe with pairs := g.pairs } } = s))
      ∧ (∀ b, p.st = .discrepant → p.since = some b → s.tbrd < b + p.tMs * 1000 → Runs (.discrepancyFault k) s (fun t => t = s))

/-- R213, R243, R263–R265: a datagram from a configured peer reaches the subsystem, another is counted; a frame that passes the checks
gives its words, FAIL_SAFE and SEQ to its connection, one that fails is counted; data too old is a TIMEOUT. -/
def Obligations.ShaciaFramesAreCheckedAndTimed : Prop :=
  ∀ (s : State) (pr : PlantRx) (rx : ShaciaRx) (p src : Word) (b bs : List Byte) (c : Fin 64), s.up = true →
    let g := s.safe
    let known := s.variant.safety = true ∧ 1 ≤ bs.length ∧ bs.length ≤ 256
      ∧ ∃ e ∈ spConnEntries (safeParams s.run), connUdp e = true ∧ field e 4 4 = src.toNat
    let others (t : State) (n : Nat) : Prop := ∀ k, k ≠ n → connOf t k = connOf s k
    let connsOnly (u t : State) : Prop := { t with safe := { t.safe with conns := g.conns } } = u
    let alone := g.st = .run ∧ s.red.st = .single
    (plantTakes pr s = true →
        (known → Runs (.shaciaDatagram pr ⟨src, bs⟩) s (fun t => t = { s with safe := { g with inbox := g.inbox ++ [(src, bs)] } }))
          ∧ (¬known → Runs (.shaciaDatagram pr ⟨src, bs⟩) s (fun t =>
              t = { s with net := { s.net with shaciaDisc := satInc s.net.shaciaDisc } })))
      ∧ (plantTakes pr s = false → Runs (.shaciaDatagram pr ⟨src, bs⟩) s (fun t => t = s))
      ∧ (∀ udp u n, alone → ShaciaArrives s rx p b udp src bs u → shaciaForm bs = true → connByPeer s udp src (field bs 2 2) = some n →
          let x := connNow s (connOf s n)
          (shaciaOk s x bs = true → Runs (.shaciaFrame rx p b) s (fun t =>
              let y := connOf t n
              y.rxSeq = field bs 4 2 ∧ y.rx = shaciaWords bs ∧ y.peerFs = (fieldB bs 1).getLsbD 1 ∧ y.disc = x.disc
                ∧ y.st = (match x.st with | .timeout => if x.ackReq then .ackWait else .run | .ackWait => .ackWait | _ => .run)
                ∧ others t n ∧ connsOnly u t))
            ∧ (shaciaOk s x bs = false → Runs (.shaciaFrame rx p b) s (fun t =>
              connOf t n = { x with disc := satInc x.disc } ∧ others t n ∧ connsOnly u t)))
      ∧ (∀ udp u, alone → ShaciaArrives s rx p b udp src bs u → shaciaForm bs = false ∨ connByPeer s udp src (field bs 2 2) = none →
          (∀ n, connById s (field bs 2 2) = some n → Runs (.shaciaFrame rx p b) s (fun t =>
              connOf t n = { connOf s n with disc := satInc (connOf s n).disc } ∧ others t n ∧ connsOnly u t))
            ∧ (connById s (field bs 2 2) = none → Runs (.shaciaFrame rx p b) s (fun t => t = u)))
      ∧ (∀ ok, krioDiscard s ⟨b, ok, false, .krio⟩ = true → Runs (.shaciaFrame (.ring ok false .krio) p b) s (fun t =>
          t = { s with net := { s.net with krioDisc := satInc s.net.krioDisc } }))
      ∧ (let x := connOf s c;
          g.st = .run → x.st = .run ∨ x.st = .ackWait →
            (x.wdMs * 1000 ≤ connAge s x → Runs (.connTimeout c) s (fun t => connOf t c = { x with st := .timeout } ∧ others t c
                ∧ { t with red := s.red, safe := { t.safe with conns := g.conns } } = s))
              ∧ (connAge s x < x.wdMs * 1000 → Runs (.connTimeout c) s (fun t => t = s)))

/-! ### Network engine (chapter 09) -/

/-- R149, R212, R213, R217, R219, R221–R223, R225, R229–R231, Table 9-7: a cycle sends the frame of the station's state; a valid INPUT
frame renews the station's words, a wrong one is counted; the third missed cycle loses the station; the ring, the links and time.
That a station whose record an edit has changed counts its cycles from the new record and begins anew is log 14. -/
def Obligations.StationCyclesRingAndTime : Prop :=
  ∀ (s : State) (n : StnId) (rec : List Byte) (f : RingFrame) (port : Fin 4) (at_ : PtpPort) (m : PtpMsg), stnRec s n = some rec →
    let x := stn s n
    let r := s.net
    let bs := f.bytes
    let withNet (y : NetSt) : State := { s with net := y }
    let others (t : State) : Prop := ∀ k : Nat, k ≠ n.val → stn t k = stn s k
    let netOnly (t : State) : Prop := { t with net := s.net, red := s.red } = s
    let krio := s.up = true ∧ f.tagged = false ∧ f.ether = .krio
    let good := krio ∧ krioDiscard s f = false ∧ fieldB bs 1 = 2
    let answers := good ∧ field bs 2 1 = n.val ∧ x.out = true ∧ x.answered = false ∧ fieldH bs 4 = x.seq
    let fits := answers ∧ field bs 3 1 ≠ 0 ∧ fieldW bs 0x0C = crc32c rec ∧ fieldW bs 0x10 = stParam rec
    let remote : BitVec 4 := BitVec.ofNat 4 (field bs 3 1)
    let plain (w : Nat) : Prop := simFor s w = none ∧ forceFor s false w = none
    let words (t : State) : Prop := (∀ i < stIn rec,
        t.iwGet (stIwBase rec + i)
          = inputWord s (stIwBase rec + i) (fieldW bs (0x14 + 8 * i)) 1 ((fieldW bs (0x18 + 8 * i)).setWidth 2))
      ∧ ∀ k, (k < stIwBase rec ∨ stIwBase rec + stIn rec ≤ k) → t.iwGet k = s.iwGet k
    let due (r : List Byte) : Prop := s.tbrd % stCycle r = stPhase r ∧ x.cycleAt ≠ some s.tbrd
    (ringSends s = false ∨ cycleDue n s = false → Runs (.stationCycleStart n) s (fun t => t = s))
      ∧ (ringSends s = true → x.out = false → x.old = none → x.st = .running → due rec → Runs (.stationCycleStart n) s (fun t =>
        (stn t n).frame = krioFrame 1 n (x.seq + 1) (BitVec.ofNat 32 s.tbrd) (crc32c rec) (stParam rec)
            ((stOutputs rec).flatMap (frameWord s x))
          ∧ (stn t n).seq = x.seq + 1 ∧ (stn t n).out = true ∧ (stn t n).answered = false ∧ (stn t n).st = .running
          ∧ (stn t n).cycleAt = some s.tbrd ∧ others t ∧ netOnly t))
      ∧ (∀ new_, ringSends s = true → x.out = false → x.old.isSome = true → newStnRec s n = some new_ → due new_ →
          Runs (.stationCycleStart n) s (fun t => (stn t n).st = .starting ∧ (stn t n).old = none ∧ (stn t n).losses = x.losses
            ∧ (stn t n).frame = krioFrame 3 n (x.seq + 1) (BitVec.ofNat 32 s.tbrd) (crc32c new_) (stParam new_) []
            ∧ others t ∧ netOnly t))
      ∧ (ringSends s = true → x.out = true → x.old = none → x.answered = false → 2 ≤ x.missed.toNat → x.st = .running → due rec →
          Runs (.stationCycleStart n) s (fun t =>
            (stn t n).st = .lost ∧ (stn t n).losses = satInc x.losses ∧ (stn t n).held = [] ∧ others t ∧ RaisesOne s t 0x7001
              ∧ ∀ i ∈ stInputs rec, routedIn s.run i = true → plain i → tagQual (t.iwGet i).tag = 3))
      ∧ (krio → krioDiscard s f = true → ∀ late, Runs (.inputFrame f late) s (fun t => t = withNet { r with krioDisc := satInc r.krioDisc }))
      ∧ (good → Runs (.inputFrame f true) s (fun t => t = withNet { r with late := satInc r.late }))
      ∧ (f.tagged = true → ∀ late, Runs (.inputFrame f late) s (fun t => t = s))
      ∧ (∀ mac late, s.up = true → f.tagged = false → f.ether = .supervision mac → f.fcsOk = true → r.ring = 4 →
          Runs (.inputFrame f late) s (fun t => mac ∈ t.net.nodes ∧ { t with net := { t.net with nodes := r.nodes } } = s))
      ∧ (fits → x.st = .running → Runs (.inputFrame f false) s (fun t => words t ∧ others t
          ∧ stn t n = { x with mismatch := false, remote := remote, answered := true, missed := 0 }))
      ∧ (fits → x.st = .lost → 1 ≤ x.good → Runs (.inputFrame f false) s (fun t => words t ∧ others t ∧ RaisesOne s t 0x7002
          ∧ (stn t n).st = .hold ∧ (stn t n).held = stOutputs rec ∧ (stn t n).losses = x.losses))
      ∧ (answers → field bs 3 1 = 0 → Runs (.inputFrame f false) s (fun t => (stn t n).st = .configuring
          ∧ (stn t n).cfgDue = true ∧ others t ∧ netOnly t))
      ∧ (ringSends s = true → ringRing s = true → ringHsr s = false →
          Runs (.beacon true) s (fun t => t.net.beaconOk = min (r.beaconOk + 1) 3 ∧ t.net.beaconMiss = 0
              ∧ t.net.ring = (if 2 ≤ r.beaconOk then 2 else r.ring) ∧ t.net.breaks = r.breaks)
            ∧ (r.ring = 2 → 2 ≤ r.beaconMiss → Runs (.beacon false) s (fun t => t.net.ring = 3 ∧ t.net.breaks = satInc r.breaks
                ∧ t.net.rtt = 0xFFFFFFFF ∧ RaisesOne s t 0x7003 ∧ SignalsOnly s { t with net := r }))
            ∧ (r.beaconMiss < 2 → Runs (.beacon false) s (fun t =>
                t = withNet { r with beaconMiss := r.beaconMiss + 1, beaconOk := 0, sent := t.net.sent })))
      ∧ (s.up = true →
          (∀ p : Nat, p < 4 → p ≠ port.val → ∀ i ∈ [Instr.portLinkDown port, .portLinkUp ⟨port, true⟩, .portLinkUp ⟨port, false⟩],
              Runs i s (fun t => t.net.links.getLsbD p = r.links.getLsbD p))
            ∧ (∀ i ∈ [(Instr.portLinkDown port, false), (.portLinkUp ⟨port, true⟩, true), (.portLinkUp ⟨port, false⟩, false)],
              Runs i.1 s (fun t => t.net.links.getLsbD port = i.2 ∧ { t with net := { t.net with links := r.links } } = s)))
      ∧ (ringSends s = true → Runs .ptpSync s (fun t => ∃ y z : PtpSent, y.domain = ptpDomain s ∧ z = { y with ns := s.now }
          ∧ y.seq = BitVec.ofNat 16 r.syncs ∧ t = withNet { r with syncs := r.syncs + 1, sync := some y, followUp := some z }))
      ∧ (ringSends s = true → m.delayReq = true → m.domain = ptpDomain s → Runs (.ptpMessage .ring m) s (fun t =>
          t = withNet { r with delayResp := some ⟨m.domain, m.seq, s.now⟩ }))
      ∧ (s.running = true → at_ ≠ .ring → Runs (.ptpMessage at_ m) s (fun t => (r.ppsUse = true → t.net.plantNs = r.plantNs)
          ∧ { t with
              free := s.free
              net := { t.net with ptpState := r.ptpState, ptpOffset := r.ptpOffset, ptpLocked := r.ptpLocked, plantNs := r.plantNs } } = s))
      ∧ (s.running = true → ppsInEnabled s = true → Runs .ppsIn s (fun t => t.net.ppsUse = true ∧ t.net.plantNs % 1000000000 = 0
          ∧ t.net.plantNs ≤ r.plantNs + 500000000 ∧ r.plantNs < t.net.plantNs + 500000000
          ∧ { t with net := { t.net with ppsUse := r.ppsUse, plantNs := r.plantNs } } = s))
      ∧ (ppsInEnabled s = false → Runs .ppsIn s (fun t => t = s))
      ∧ (s.up = true → r.plantNs % 1000000000 = 0 → r.ppsAt ≠ some (r.plantNs / 1000000000) → Runs .ppsOut s (fun t =>
          t = withNet { r with ppsOut := r.ppsOut + 1, ppsAt := some (r.plantNs / 1000000000) }))
      ∧ (ppsDue s = false → Runs .ppsOut s (fun t => t = s))

/-- R212, R232, R233, R241, R242, R398: plant frames are answered at the port's own address and else counted, as are those beyond the
rate; Modbus connections, register reads from one snapshot, writes as one batch, exceptions. -/
def Obligations.PlantPortsAndModbusServer : Prop :=
  ∀ (s : State) (rx : PlantRx) (target sender : Word) (payload : List Byte) (q : MbRx) (unit fc : Byte) (start qty : Half)
    (regs : List Half), s.running = true →
    let p4 := rx.port4
    let r := s.net
    let c := q.c
    let x := conn s c
    let own : List Byte := (if p4 then r.p4 else r.p3).take 4
    let ip (w : Word) : List Byte := (wordBytes w).reverse
    let counted (u t : State) : Prop := t = { u with net := { u.net with plantDisc := satInc r.plantDisc } }
    let takes := plantTakes rx s = true
    let room := plantRoom s p4 = true
    let mac := Config.macAddress (p4 && !r.prp)
    let connOnly (t : State) : Prop := ∀ k : Nat, k ≠ c.val → conn t k = conn s k
    let frame (t : State) : Prop := connOnly t ∧ ServerOnly s t
    let served (resp : List Byte) (t : State) : Prop :=
      (conn t c).resp = resp ∧ t.net.mbReq = r.mbReq + 1 ∧ t.net.mbRefused = r.mbRefused ∧ frame t
    let refused (f code : Byte) (t : State) : Prop :=
      (conn t c).resp = [f ||| 0x80, code] ∧ t.net.mbReq = r.mbReq ∧ t.net.mbRefused = satInc r.mbRefused ∧ frame t
    let open_ := x.opened = true ∧ x.wait = false
    let ready := open_ ∧ plantRoom s q.port4 = true
    let inUnit := 1 ≤ unit.toNat ∧ unit.toNat ≤ 4
    let es := mbWords start qty regs
    let owned := ∀ e ∈ es, ∃ q, routeOf s.run false e.num = some q ∧ q.endpoint = 7
    let requests := [Instr.readRegisters03 q unit start qty, .readRegisters04 q unit start qty,
      .writeMultipleRegisters q unit start qty regs, .readDeviceIdentification q, .modbusUnknownFunction q fc]
    (takes → Runs (.plantFrame rx) s (counted s))
      ∧ (takes → room → ip target = own →
          Runs (.arp rx target sender) s (fun t => { t with net := { t.net with reply := r.reply } } = plantTaken p4 s
            ∧ t.net.reply = some (p4, [0, 1, 8, 0, 6, 4, 0, 2] ++ mac ++ ip target ++ ip sender))
          ∧ Runs (.icmpEcho rx target sender payload) s (fun t => { t with net := { t.net with reply := r.reply } } = plantTaken p4 s
            ∧ t.net.reply = some (p4, ip target ++ ip sender ++ [0, 0] ++ payload)))
      ∧ (∀ i ∈ [Instr.arp rx target sender, .icmpEcho rx target sender payload],
          (takes → room → ip target ≠ own → Runs i s (counted (plantTaken p4 s))) ∧ (takes → ¬room → Runs i s (counted s)))
      ∧ (¬takes → ∀ i ∈ [Instr.plantFrame rx, .arp rx target sender, .icmpEcho rx target sender payload], Runs i s (fun t => t = s))
      ∧ (x.opened = false → (∀ k < c.val, (conn s k).opened = true) → Runs .modbusConnect s (fun t =>
          conn t c = { opened := true, lastNs := s.now } ∧ connOnly t ∧ { t with net := { t.net with conns := r.conns } } = s))
      ∧ ((∀ k < 8, (conn s k).opened = true) → Runs .modbusConnect s (fun t => t = s))
      ∧ (x.lastNs + 60000000000 ≤ s.now → Runs (.modbusIdle c) s (fun t => conn t c = {} ∧ frame t))
      ∧ (s.now < x.lastNs + 60000000000 → Runs (.modbusIdle c) s (fun t => t = s))
      ∧ (ready → ∀ p ∈ [((3 : Byte), Instr.readRegisters03 q unit start qty), (4, .readRegisters04 q unit start qty)],
          (inUnit → 1 ≤ qty.toNat → qty.toNat ≤ 125 → start.toNat + qty.toNat ≤ 65536 → Runs p.2 s
              (served ([p.1, BitVec.ofNat 8 (2 * qty.toNat)]
                ++ (List.range qty.toNat).flatMap (fun i => beBytes (mbRegister s unit (start.toNat + i))))))
            ∧ (¬inUnit → Runs p.2 s (refused p.1 2))
            ∧ (inUnit → qty = 0 ∨ 125 < qty.toNat → Runs p.2 s (refused p.1 3))
            ∧ (inUnit → 1 ≤ qty.toNat → qty.toNat ≤ 125 → 65536 < start.toNat + qty.toNat → Runs p.2 s (refused p.1 2)))
      ∧ (ready → unit = 1 → start.toNat % 2 = 0 → qty.toNat % 2 = 0 → 1 ≤ qty.toNat → qty.toNat ≤ 122 → owned →
          Runs (.writeMultipleRegisters q unit start qty regs) s (fun t =>
            conn t c = { x with wait := true, start := start, qty := qty, lastNs := s.now } ∧ connOnly t
              ∧ t.img.hostIn = s.img.hostIn ++ [⟨7, .modbus c, es⟩] ∧ t.net.mbReq = r.mbReq))
      ∧ (ready → unit ≠ 1 ∨ start.toNat % 2 ≠ 0 ∨ qty.toNat % 2 ≠ 0 ∨ 122 < qty.toNat ∨ qty = 0 ∨ ¬owned →
          Runs (.writeMultipleRegisters q unit start qty regs) s (refused 0x10 2))
      ∧ (ready → Runs (.readDeviceIdentification q) s (fun t => ∃ objects, served ([0x2B, 0x0E, 1, 1, 0, 0, 3] ++ objects) t)
          ∧ Runs (.modbusUnknownFunction q fc) s (refused fc 1))
      ∧ (open_ → plantRoom s q.port4 = false → ∀ i ∈ requests, Runs i s (counted s))
      ∧ (¬open_ → ∀ i ∈ requests, Runs i s (fun t => t = s))

/-! ### Hot standby (chapter 11) -/

/-- R274–R281, R291, R292, Table 11-3: IL_IN's bands, arbitration, the claim window, the loss of OE, the test of the token path
and the handover. -/
def Obligations.TokenIsClaimedHeldAndHandedOver : Prop :=
  ∀ (s : State) (rx : TrelexRx) (i : Half) (n : Word) (c : Byte) (tb : Dword), pairOn s = true →
    let r := s.red
    let got := heard rx s
    let band : IlRead := if i.toNat < 200 then .open_ else if i.toNat < 1000 then .released else if i.toNat < 2600 then .held else .short
    let withRed (x : RedSt) : State := { s with red := x }
    let active (t : State) : Prop := t.red.st = .active ∧ t.red.token = true ∧ t.red.oe = true ∧ t.red.ilOut = true
    let claims (t : State) : Prop := t.red.claiming = true ∧ t.red.ilOut = true ∧ t.red.claimNs = s.now ∧ t.red.st = r.st ∧ t.red.oe = r.oe
    let idle (t : State) : Prop := ∀ k : TaskId, (t.task k).busy = false
    let same (t : State) : Prop := t = s
    Runs (.ilInReading i) s (fun t => t.red.il = band ∧ t.red.il10uA = i
        ∧ (r.st = .active → r.token = true → r.oe = false → band ≠ .held → t.red.oe = true ∧ t.red.st = .active)
        ∧ (r.st = .active → band = .held → r.pulseOpen = true → t.red.pulseOpen = false ∧ RedOnly s t)
        ∧ (r.st ≠ .active → r.waitFree = true → band = .released → active t)
        ∧ (s.running = true → r.st = .ready → r.waitFree = false → band = .released → r.claiming = false → r.conflict = false →
            r.retryNs ≤ s.now → replayDone s = true → claims t ∧ idle t)
        ∧ (s.running = false → r.st = .ready → r.waitFree = false → band = .released → t.red.ilOut = r.ilOut ∧ RedOnly s t))
      ∧ (r.ilFault = false → r.il = .open_ ∨ r.il = .short → Runs (.ilFault true) s (fun t =>
          t.red = { r with ilFault := true } ∧ RedOnly s t ∧ RaisesOne s t 0x9004))
      ∧ (r.il = .released ∨ r.il = .held → Runs (.ilFault false) s (fun t => t = withRed { r with ilFault := false }))
      ∧ (s.running = true → r.st = .arbitrating → r.claiming = false → r.arbNs + 100000000 ≤ s.now →
          (standbyFit s = true → r.il = .held ∨ partnerActive s = true → Runs .arbitrationEnd s (fun t =>
              t.red.st = .syncing ∧ t.red.why = 1 ∧ t.red.token = false ∧ t.red.oe = false))
            ∧ (standbyFit s = false → r.il = .held ∨ partnerActive s = true → disqHour s < 2 →
              Runs .arbitrationEnd s (fun t => AfterReset s t 0x09 0xFF 0))
            ∧ (r.il = .open_ ∨ r.il = .short → partnerActive s = false → Runs .arbitrationEnd s (fun t =>
              t.red = { r with st := .held, token := false, oe := false } ∧ RedOnly s t ∧ RaisesOne s t 0x9003))
            ∧ (r.il = .released → partnerActive s = false → r.notFree = false → r.conflict = false → Runs .arbitrationEnd s (fun t =>
              claims t ∧ RedOnly s t)))
      ∧ (s.running = false ∨ s.now < r.arbNs + 100000000 → Runs .arbitrationEnd s same)
      ∧ (s.running = true → refused s = false → r.st = .held → r.il = .released → r.freeNs + 100000000 ≤ s.now → r.conflict = false →
          r.claiming = false → r.waitFree = false → r.retryNs ≤ s.now → Runs .heldToActive s (fun t => claims t ∧ RedOnly s t))
      ∧ (s.running = false ∨ refused s = true ∨ s.now < r.freeNs + 100000000 → Runs .heldToActive s same)
      ∧ (r.claiming = true → r.claimNs + 10000 ≤ s.now →
          (r.il = .released → Runs .claimWindowEnd s (fun t => active t ∧ t.red.claiming = false
              ∧ (r.st = .ready → t.red.switches = satInc r.switches ∧ t.red.so = (if r.so = 0 then 1 else r.so)
                ∧ (s.stor.worn = [] → RaisesOne s t 0x9001))
              ∧ (r.st ≠ .ready → ∀ k : TaskId, (s.task k).st = .stopped → (s.task k).cause = 0 → (s.tcfg k).kind ≠ 0 →
                  regionFaulted s k = false → (t.task k).st = .idle)))
            ∧ (r.il = .held → r.strapB = false → Runs .claimWindowEnd s (fun t => t = withRed { r with claiming := false, waitFree := true }))
            ∧ (r.il ≠ .released → (r.il = .held → r.strapB = true) →
              (r.st ≠ .arbitrating → Runs .claimWindowEnd s (fun t =>
                  t = withRed { r with claiming := false, waitFree := false, ilOut := false, retryNs := s.now + 1000000 }))
                ∧ (r.st = .arbitrating → standbyFit s = true → Runs .claimWindowEnd s (fun t =>
                  t.red.st = .syncing ∧ t.red.why = 1 ∧ t.red.ilOut = false))))
      ∧ (r.claiming = false ∨ s.now < r.claimNs + 10000 → Runs .claimWindowEnd s same)
      ∧ (r.st = .active → r.oe = true → r.il = .held → Runs .oeLoss s (fun t =>
          t.red = { r with oe := false, token := true } ∧ RedOnly s t ∧ RaisesOne s t 0x9004 ∧ t.host.irq.getLsbD 3 = true))
      ∧ (s.running = true → r.st = .ready → r.claiming = false → r.linkUp = true → Runs .tokenPathPulse s (fun t =>
          t.red.pulse = r.pulse + 1 ∧ t.red.ilOut = true ∧ t.red.pulseNs = some s.now
            ∧ Sends t 8 ([6, 0, 0, 0] ++ wordBytes (r.pulse + 1)) ∧ RedOnly s t))
      ∧ (Arrives s rx → r.st = .active →
          (r.pulseOpen = false → Runs (.tokenPulse ⟨rx, n⟩) s (fun t => t = { s with red := { got.red with pulse := n, pulseOpen := true } }))
            ∧ (r.pulseOpen = true → Runs (.tokenPulse ⟨rx, n⟩) s (fun t => t.red.pulse = n ∧ t.red.pulseOpen = true
              ∧ Sends t 8 ([7, 0, 0, 0] ++ wordBytes r.pulse ++ [0, 0, 0, 0]) ∧ RedOnly s t)))
      ∧ (Arrives s rx → r.st = .ready →
          Runs (.tokenReport ⟨rx, n⟩ true) s (fun t => t = { s with red := { got.red with seen := r.seen + 1, missed := 0 } })
            ∧ (r.missed = 0 → Runs (.tokenReport ⟨rx, n⟩ false) s (fun t =>
                t = { s with red := { got.red with missTotal := satInc r.missTotal, missed := 1 } }))
            ∧ (1 ≤ r.missed → Runs (.tokenReport ⟨rx, n⟩ false) s (fun t =>
                (s.sup.phase ≠ .dusk → disqHour s < 2 → AfterReset s t 0x09 0xFF 0)
                ∧ (s.sup.phase = .dusk → t.red.st = .disqualified ∧ t.red.disq = 4 ∧ t.red.oe = false)
                ∧ t.red.disqAt = r.disqAt.filter (fun t => decide (s.opMs < t + 3600000)) ++ [s.opMs])))
      ∧ (∀ k, r.handover = some k → r.st = .active → r.token = true → (∀ u : TaskId, (s.task u).st ≠ .publish) → s.mb.busy = none →
          (k.toNat = 6 → partnerActive s = false → Runs .handoverRelease s (fun t => t.red.st = .syncing ∧ t.red.token = false
              ∧ t.red.oe = false ∧ t.red.ilOut = false ∧ idle t ∧ RaisesOne s t 0x9005 ∧ t.run = s.run))
            ∧ (k.toNat ≠ 6 → Runs .handoverRelease s (fun t => AfterReset s t 0x08 0xFF 0 ∧ t.img.noSave = true)))
      ∧ (Arrives s rx → standby s = true → Runs (.handover ⟨rx, c⟩ tb) s (fun t => t.red.so = c.setWidth 4
          ∧ (r.il ≠ .released → t = { s with red := { got.red with so := c.setWidth 4 } })))

/-- R8, R282, R283, R289, R294: frames of the Trelex link, their acknowledgement and retransmission, lanes and their loss; a frame
that arrives takes effect whole, in the order of its records, or with a wrong CRC or record not at all and unacknowledged; HELLO, PARTNER
words and Report Cards. That the partner's image is a free value is log 17, the discard of a frame out of turn log 34. -/
def Obligations.TrelexLinkAndHello : Prop :=
  ∀ (s : State) (rx : TrelexRx) (seq : Word) (lane1 : Bool) (h : HelloMsg) (entries : List WordEntry) (card : List Word),
    pairOn s = true →
    let r := s.red
    let got := heard rx s
    let withRed (x : RedSt) : State := { s with red := x }
    let late (f : SentFrame) : Prop := f.seq = seq ∧ f.at_ + 20000 ≤ s.now
    (r.filling ≠ [] → r.linkUp = true → Runs .trelexFrameClose s (fun t =>
        let both := r.l0Up && r.l1Up
        t.red.scanSeq = r.scanSeq + 1 ∧ t.red.filling = []
          ∧ t.red.unacked.getLast? = some ⟨r.scanSeq + 1, trelexBytes false (r.scanSeq + 1) (r.rxSeq.getD 0) s.gen r.filling,
              if both then r.nextL1 else r.l1Up, s.now⟩
          ∧ t.red.nextL1 = (if both then !r.nextL1 else r.nextL1) ∧ { t with red := r } = s))
      ∧ (r.filling = [] → Runs .trelexFrameClose s (fun t => t = s))
      ∧ ((∃ f ∈ r.unacked, late f) → Runs (.trelexRetransmit seq) s (fun t =>
          t.red.retrans = satInc r.retrans ∧ { t with red := r } = s ∧ t.red.unacked.length = r.unacked.length
            ∧ ∀ (k : Nat) (f g : SentFrame), r.unacked[k]? = some f → t.red.unacked[k]? = some g → g.seq = f.seq ∧ (¬late f → g = f)
                ∧ (late f → g.lane1 = (if f.lane1 then !r.l0Up else r.l1Up) ∧ g.at_ = s.now
                  ∧ (6 ≤ f.bytes.length → fieldB g.bytes 1 = 1 ∧ g.bytes.length = f.bytes.length
                    ∧ g.bytes.drop (g.bytes.length - 4) = wordBytes (crc32c (g.bytes.take (g.bytes.length - 4)))))))
      ∧ ((∀ f ∈ r.unacked, ¬late f) → Runs (.trelexRetransmit seq) s (fun t => t = s))
      ∧ Runs (.laneDown lane1) s (fun t => t = withRed
          (if lane1 then { r with l1Up := false, down1 := satInc r.down1 } else { r with l0Up := false, down0 := satInc r.down0 }))
      ∧ Runs (.laneUp lane1) s (fun t => t = withRed
          (if lane1 then { r with l1Up := true, linkUp := true } else { r with l0Up := true, linkUp := true }))
      ∧ (r.linkUp = true → r.l0Up = false → r.l1Up = false →
          (r.st = .active → Runs .linkDown s (fun t => t.red.linkUp = false ∧ t.red.partner = none ∧ t.red.st = .active
              ∧ t.red.oe = r.oe ∧ { t with red := r } = s))
            ∧ (s.sup.phase ≠ .dusk → r.st = .syncing ∨ standby s = true → disqHour s < 2 →
              Runs .linkDown s (fun t => AfterReset s t 0x09 0xFF 0)))
      ∧ (r.l0Up = true ∨ r.l1Up = true → Runs .linkDown s (fun t => t = s))
      ∧ (r.linkUp = true → r.pulseOpen = false → Runs .helloTimer s (fun t => Sends t 8 ([1, 0, 0, 0] ++ helloBytes s) ∧ RedOnly s t))
      ∧ (¬Comes s rx → ∀ (ws : List WordEntry) (wr : Fin 4) (st : StnId) (tk : TaskId) (kind : MarkKind) (act n : Word) (rd : ReadRec)
          (b : Byte) (ds : List DeltaEntry) (cmp : CompareRec) (x y : Dword) (bs : List Byte) (p : Bool) (hw : Half),
          ∀ i ∈ [Instr.words ⟨rx, ws⟩, .refresh ⟨rx, wr⟩ st, .mark ⟨rx, tk⟩ kind act, .readRecord ⟨rx, rd⟩, .delta ⟨rx, b⟩ act ds, .compare ⟨rx, cmp⟩,
              .batchFetch ⟨rx, tk⟩ act, .batchData ⟨rx, tk⟩ hw act ws, .statePage ⟨rx, n⟩ bs, .reportCard ⟨rx, card⟩, .partner ⟨rx, ws⟩, .cut ⟨rx, x⟩ y,
              .copyEnd ⟨rx, n⟩, .resyncRequest ⟨rx, b⟩, .tokenPulse ⟨rx, n⟩, .tokenReport ⟨rx, n⟩ p, .handover ⟨rx, b⟩ x, .trelexHello ⟨rx, h⟩,
              .loadCheck ⟨rx, p⟩ b bs, .loadCommit ⟨rx, tk⟩ act, .editAgree ⟨rx, tk⟩ act], Runs i s (fun t => t = s))
      ∧ (Comes s rx → ∀ (i : Instr) (p : PartnerRec), BringsRecord rx i p →
          let recs := (if rx.index = 0 then [] else r.frame) ++ [p]
          let sound := rx.crcOk = true ∧ (rx.index = 0 ∨ r.frameBad = false)
          (rx.last = false → Runs i s (fun t => ∃ b : Bool, (b = true ↔ ¬sound)
              ∧ t = withRed { r with rxCur := rx.seq, rxNext := rx.index + 1, frame := recs, frameBad := b }))
            ∧ (rx.last = true → ¬sound → Runs i s (fun t =>
              t = withRed { r with rxCur := rx.seq, rxNext := 0, frame := [], frameBad := false }))
            ∧ (rx.last = true → sound → Runs i s (fun t => t = recs.foldl (fun u x => applyRecord x u) got)))
      ∧ (Comes s rx → ∀ i : Instr, Malformed rx i →
          (rx.last = false → Runs i s (fun t => t.red.frameBad = true ∧ t.red.rxNext = rx.index + 1 ∧ t.red.rxSeq = r.rxSeq
              ∧ { t with red := r } = s))
            ∧ (rx.last = true → Runs i s (fun t =>
              t = withRed { r with rxCur := rx.seq, rxNext := 0, frame := [], frameBad := false })))
      ∧ (Arrives s rx → h.digest.length = 32 →
          let bytes := Config.partnerImage h.digest s.free
          let known (t : State) : Prop := t.red.partner = some h ∧ t.red.helloNs = some s.now ∧ t.red.conflict = (h.strapB == r.strapB)
            ∧ t.red.rxSeq = some rx.seq
          (compatible s h = true → h.state ≠ 2 ∨ r.st ≠ .syncing ∧ r.st ≠ .held → Runs (.trelexHello ⟨rx, h⟩) s (fun t => known t ∧ t.red.st = r.st ∧ RedOnly s t
              ∧ t.red.unacked = r.unacked.filter (fun f => !seqUpTo f.seq rx.ack)))
            ∧ (compatible s h = true → h.state = 2 → r.st = .syncing → r.step = 1 ∨ r.step = 2 → h.gen = s.gen → h.digest = s.run.digest →
              Runs (.trelexHello ⟨rx, h⟩) s (fun t => known t ∧ t.red.st = .syncing ∧ t.red.step = 3
                ∧ Sends t 8 ([0x0B, 0, 0, 0] ++ [r.why, 0, 0, 0]) ∧ RedOnly s t))
            ∧ (compatible s h = true → h.state = 2 → r.st = .syncing → r.step = 1 ∨ r.step = 2 → h.gen ≠ s.gen ∨ h.digest ≠ s.run.digest →
              s.cfg.job = none → Runs (.trelexHello ⟨rx, h⟩) s (fun t => known t ∧ t.red.step = 2 ∧ RunsOn s t ∧ t.free = s.free + 1
                ∧ (imageDigest bytes = h.digest → t.cfg.stage = 2 ∧ t.cfg.status = 1 ∧ t.cfg.digest = digestWord bytes
                  ∧ ∃ j, t.cfg.job = some j ∧ j.resync = some h.gen ∧ j.bytes = bytes ∧ j.phase = .checking)
                ∧ (imageDigest bytes ≠ h.digest → t.cfg = s.cfg)))
            ∧ (compatible s h = true → h.state = 2 → r.st = .held → standbyFit s = true → Runs (.trelexHello ⟨rx, h⟩) s (fun t =>
              known t ∧ t.red.st = .syncing ∧ t.red.why = 1))
            ∧ (compatible s h = false → Runs (.trelexHello ⟨rx, h⟩) s (fun t => known t ∧ t.red.disq = 7 ∧ RedOnly s t
              ∧ (r.token = false → t.red.st = .held ∧ t.red.oe = false) ∧ (r.token = true → t.red.st = r.st ∧ t.red.oe = r.oe)
              ∧ (r.disq ≠ 7 → RaisesOne s t 0x9002))))
      ∧ (Arrives s rx → goodPartner s = true → Runs (.partner ⟨rx, entries⟩) s (fun t =>
          t.img.trelexIn = s.img.trelexIn ++ [⟨5, .none, entries⟩] ∧ t.tasks = s.tasks ∧ t.img.iw = s.img.iw
            ∧ ∀ j, portCur s = some j → s.img.lane ≠ [] ∨ portGlide j s = none →
                t = { got with img := { s.img with trelexIn := t.img.trelexIn } }))
      ∧ (Arrives s rx → goodPartner s = false → Runs (.partner ⟨rx, entries⟩) s (fun t => t = got))
      ∧ (Arrives s rx → r.st = .active → card.length = 16 → Runs (.reportCard ⟨rx, card⟩) s (fun t =>
          t = { s with red := { got.red with card := card } }))
      ∧ (standby s = true ∨ r.st = .syncing ∨ r.st = .disqualified → r.linkUp = true → Runs .reportCardTimer s (fun t =>
          t.red.card = ownCard s ∧ Sends t 9 ((ownCard s).flatMap wordBytes) ∧ RedOnly s t))

/-- R130, R282, R285–R288, Tables 11-13 to 11-17: in a standby, words wait for their REFRESH, a MARK starts the same activation, READ,
DELTA and COMPARE records reach their place; from the cut to the end of step 5 they wait (Table 11-9); a lag of 1 ms or a mismatch
disqualifies. -/
def Obligations.StandbyTakesTheStream : Prop :=
  ∀ (s : State) (rx : TrelexRx) (entries : List WordEntry) (writer : Fin 4) (st : StnId) (tk : TaskId) (act : Word) (rd : ReadRec)
    (cmp : CompareRec) (task : Byte) (idx : Half) (b : List Byte), Arrives s rx →
    let r := s.red
    let got := heard rx s
    let withRed (x : RedSt) : State := { s with red := x }
    let own (n : Nat) : Bool := writerOwns s writer st n
    let free := s.running = true ∧ recessFirst s tk = false ∧ regionFaulted s tk = false
    (taking s = true → (entries.map (·.num)).Nodup → Runs (.words ⟨rx, entries⟩) s (fun t =>
        (∀ e ∈ entries, e.num < 32768 → tget none t.red.hidden e.num = some ⟨e.data, e.tag &&& 0xFFFFFF3F⟩)
          ∧ (∀ n, (∀ e ∈ entries, e.num ≠ n) → tget none t.red.hidden n = tget none r.hidden n)
          ∧ t = withRed { got.red with hidden := t.red.hidden }))
      ∧ (taking s = true → twf none r.hidden = true → Runs (.refresh ⟨rx, writer⟩ st) s (fun t =>
          (∀ n, tget {} t.red.replica n = (match tget none r.hidden n with
              | some w => if own n then w else tget {} r.replica n | none => tget {} r.replica n)
            ∧ tget none t.red.hidden n = (if own n then none else tget none r.hidden n))
            ∧ t = withRed { got.red with hidden := t.red.hidden, replica := t.red.replica }))
      ∧ (standby s = true → (s.tcfg tk).kind ≠ 0 →
          ((s.task tk).st = .running → Runs (.mark ⟨rx, tk⟩ .rollCall act) s (fun t =>
              t = withRed { got.red with marks := r.marks ++ [⟨tk, false, act, replicaWords s (rollCallSet s tk)⟩] }))
            ∧ (free → (s.task tk).st = .idle → (∀ m ∈ r.marks, m.task ≠ tk) → act ≠ 1 ∨ (s.task tk).actCnt = 0 →
              Runs (.mark ⟨rx, tk⟩ .rollCall act) s (fun t => (t.task tk).st = .rollCall ∧ (t.task tk).actCnt = act
                ∧ (∀ n ∈ rollCallSet s tk, tget {} (t.task tk).snap n = tget {} r.replica n)
                ∧ ∀ k : Nat, k ≠ tk.val → t.task k = s.task k))
            ∧ ((s.task tk).st = .running → (s.task tk).wanted = false → (s.task tk).pending = false →
              Runs (.mark ⟨rx, tk⟩ .eventArrival act) s (fun t => t.task tk = { s.task tk with pending := true, pendNs := s.now }
                ∧ (∀ k : Nat, k ≠ tk.val → t.task k = s.task k) ∧ { t with tasks := s.tasks } = got)))
      ∧ (taking s = true → readOk rd = true → Runs (.readRecord ⟨rx, rd⟩) s (fun t =>
          ∃ a, t = withRed { got.red with reads := r.reads ++ [(a, rd)] }
            ∧ ∀ front m rest, r.marks = front ++ m :: rest → m.task = rd.task → (∀ k ∈ rest, k.task ≠ rd.task) → a = m.act))
      ∧ (readOk rd = false → Runs (.readRecord ⟨rx, rd⟩) s (fun t => t.red.reads = r.reads ∧ t.red.rxSeq = r.rxSeq ∧ RedOnly s t))
      ∧ (∀ (i : Instr) (p : PartnerRec), BringsRecord rx i p → isStream p = true →
          (r.st = .syncing → r.step = 5 → Runs i s (fun t => t = withRed { got.red with held := r.held ++ [p] }))
            ∧ (standby s = false → ¬(r.st = .syncing ∧ r.step = 5) → Runs i s (fun t => t = got)))
      ∧ (taking s = true → b.length = 12 → field b 4 1 = 1 → Runs (.delta ⟨rx, task⟩ act [⟨5, idx, b⟩]) s (fun t =>
          forceFor t (decide (32768 ≤ idx.toNat)) (idx.toNat % 32768)
              = some ⟨decide (32768 ≤ idx.toNat), idx.toNat % 32768, fieldW b 0, 0⟩
            ∧ { t with img := { t.img with forces := s.img.forces } } = got))
      ∧ (taking s = true → cmp.fromStandby = false → r.kept = [] → Runs (.compare ⟨rx, cmp⟩) s (fun t =>
          t = withRed { got.red with compares := r.compares ++ [({ cmp with result := 0 }, s.now)] }))
      ∧ (∀ k, taking s = true → standby s = true → cmp.fromStandby = false → r.compares = [] → r.kept = [k] → k.task = cmp.task.val →
          k.act = cmp.act →
          let same := crc32c (k.entries.flatMap (fun e => entryBytes e.1 e.2)) = cmp.crcActive ∧ (cmp.stopCause = 0 ↔ k.cause = 0)
          (same → Runs (.compare ⟨rx, cmp⟩) s (fun t => t.red.compares = [] ∧ t.red.compared = satInc r.compared
              ∧ t.red.mismatches = r.mismatches ∧ t.red.matched.getLsbD cmp.task = true ∧ RedOnly s t))
            ∧ (¬same → Runs (.compare ⟨rx, cmp⟩) s (fun t => t.red.mismatches = satInc r.mismatches ∧ t.red.compared = r.compared
              ∧ (t.red.compares.map (fun e => e.1.result)) = [2] ∧ RedOnly s t)))
      ∧ (∀ e, r.compares.find? (fun e => e.1.task == tk && e.1.result == (0 : Byte)) = some e → standby s = true →
          (e.2 + 1000000 ≤ s.now → s.sup.phase ≠ .dusk → disqHour s < 2 → Runs (.replayLagExpiry tk) s (fun t => AfterReset s t 0x09 0xFF 0))
            ∧ (s.now < e.2 + 1000000 → Runs (.replayLagExpiry tk) s (fun t => t = s)))
      ∧ (∀ k, r.st = .active → r.kept.find? (fun x => x.task == tk.val && x.act == act) = some k → k.entries.length ≤ 168 →
          Runs (.batchFetch ⟨rx, tk⟩ act) s (fun t => RedOnly s t
            ∧ Sends t 8 ([9, 0, 0, 0] ++ ([BitVec.ofNat 8 tk.val, 0] ++ leBytes 2 0 ++ wordBytes act
                ++ k.entries.flatMap (fun e => entryBytes e.1 e.2)))))
      ∧ (∀ k e, standby s = true → r.kept.find? (fun x => x.task == tk.val && x.act == act) = some k → e ∈ r.compares →
          e.1.task = tk → e.1.act = act → e.1.result = (2 : Byte) →
          let es : List (Nat × ImgWord) := entries.map (fun e => (e.num, ⟨e.data, e.tag &&& 0xFFFFFF3F⟩))
          let first : Half := BitVec.ofNat 16 r.fetched.length
          r.fetched.length < 65536 → entries.length ≤ 168 →
          (r.fetched.length + entries.length < k.entries.length → Runs (.batchData ⟨rx, tk⟩ first act entries) s (fun t =>
              t = withRed { got.red with fetched := r.fetched ++ es }))
            ∧ (k.entries.length ≤ r.fetched.length + entries.length → s.sup.phase ≠ .dusk → disqHour s < 2 → Runs (.batchData ⟨rx, tk⟩ first act entries) s
              (fun t => AfterReset s t 0x09 0xFF 0)))

/-- R286, R290, R294–R296, Table 11-9: the request for a copy, pages, the cut with the active module's timebase, the end of the copy;
a resynchronisation that fails is tried again. -/
def Obligations.ResynchronisationCopiesAndCuts : Prop :=
  ∀ (s : State) (rx : TrelexRx) (addr : Word) (page : List Byte) (tb clk : Dword) (n : Word) (cause : Byte),
    let r := s.red
    let got := heard rx s
    let withRed (x : RedSt) : State := { s with red := x }
    (Arrives s rx →
        (∀ k, r.st = .syncing → 3 ≤ r.step → page.length = 1024 → addr = BitVec.ofNat 32 (0x08000000 + k) → k < 16384 →
          Runs (.statePage ⟨rx, addr⟩ page) s (fun t => (∀ i < 1024, readByte t.shared (1024 * k + i) = page.getD i 0)
            ∧ (∀ x, ¬(1024 * k ≤ x ∧ x < 1024 * k + 1024) → readByte t.shared x = readByte s.shared x)
            ∧ { t with shared := s.shared } = got))
        ∧ (r.st = .syncing → r.step = 3 → Runs (.cut ⟨rx, tb⟩ clk) s (fun t => t.red.step = 5 ∧ t.tbrd = tb.toNat ∧ t.red.compared = 0
            ∧ t.red.st = .syncing ∧ t.run = s.run ∧ t.tasks = s.tasks))
        ∧ (r.st = .syncing → n ≠ 0 → Runs (.copyEnd ⟨rx, n⟩) s (fun t => t = withRed { got.red with pages := n.toNat }))
        ∧ (r.st = .syncing → r.step = 5 → Runs (.copyEnd ⟨rx, 0⟩) s (fun t => ∃ u, RedOnly s u
            ∧ u.red = { got.red with st := .comparing, token := false, oe := false, step := 6, pages := 0, disq := 0, held := [] }
            ∧ t = r.held.foldl (fun v x => streamRecord x v) u))
        ∧ (∀ h, r.st = .active → r.partner = some h → compatible s h = true → Runs (.resyncRequest ⟨rx, cause⟩) s (fun t =>
            t.red.step = 3 ∧ t.red.why = cause ∧ t.red.cutNs = none ∧ t.red.copyNs = s.now ∧ t.red.st = .active ∧ t.red.delta = []
              ∧ t.red.copied = allPages.map (fun a => (a, pageOf t a)) ∧ { t with red := r } = s))
        ∧ (r.st ≠ .active ∨ goodPartner s = false → Runs (.resyncRequest ⟨rx, cause⟩) s (fun t => t = got)))
      ∧ (r.st = .active → r.step = 3 → r.linkUp = true →
          ((∀ k : TaskId, (s.task k).st ≠ .rollCall ∧ (s.task k).st ≠ .running ∧ (s.task k).st ≠ .publish) →
              (dirtyPages s).length ≤ 4096 → Runs .resyncCut s (fun t => t.red.step = 0 ∧ t.red.cutNs = some s.now ∧ t.red.copied = []
                ∧ t.red.kept = [] ∧ t.red.delta = [] ∧ t.red.taken = []
                ∧ Sends t 8 ([0x0C, 0, 0, 0] ++ [0, 0, 0, 0]) ∧ streaming t = true ∧ { t with red := r } = s))
            ∧ (∀ k : TaskId, (s.task k).st = .running → Runs .resyncCut s (fun t => t = s)))
      ∧ (r.st = .active → r.step = 3 → s.up = true → r.copyNs + 10000000000 ≤ s.now → Runs .noCut s (fun t =>
          t.red = { r with failed := true, failNs := s.now, step := 0 } ∧ RaisesOne s t 0x9006 ∧ RedOnly s t))
      ∧ (s.now < r.copyNs + 10000000000 → Runs .noCut s (fun t => t = s))
      ∧ (r.st = .syncing → r.failed = true → r.partner = none → r.failNs + 10000000000 ≤ s.now →
          (∀ j, s.cfg.job = some j → j.resync = none) → Runs .resyncRetry s (fun t =>
          t.red.st = .syncing ∧ t.red.step = 1 ∧ t.red.failed = false ∧ t.red.why = 3 ∧ t.red.resyncs = satInc r.resyncs ∧ RedOnly s t))
      ∧ (r.failed = false ∨ s.now < r.failNs + 10000000000 → Runs .resyncRetry s (fun t => t = s))

/-! ### Loads and edits (chapters 02, 06) -/

/-- R40, R42–R46, R52, R114, R116, Tables 2-16, 2-24: the check refuses and leaves what runs, or stops the tasks; a pair agrees; the load
activates with the next generation; a region restart tests, loads and starts the task with its Blackboard kept. -/
def Obligations.LoadsGoFromCheckToActivation : Prop :=
  ∀ (s : State) (j : LoadJob) (rt : RegionTest) (k : TaskId) (act : Word) (delta : Bool) (result : Byte) (digest : List Byte)
    (n : RegionId) (rx : TrelexRx), s.up = true →
    let got := heard rx s
    let job := s.cfg.job = some j
    let alone := pairLoads s = false
    let calmRole := standby s = false ∧ s.red.st ≠ .syncing ∧ partnerReady s = false
    let phase (t : State) (p : LoadPhase) : Prop := ∃ x, t.cfg.job = some x ∧ x.phase = p ∧ x.bytes = j.bytes ∧ x.delta = j.delta
    let same := delta = j.delta ∧ digest = imageDigest j.bytes
    let x := s.region n
    let quiet := s.mb.busy = none
    (job → alone → j.phase = .checking →
        (∀ e, checkImage s j.bytes = some e → Runs .imageCheckDone s (fun t =>
            EndsRefused s t e.stage e.status e.detail ∧ t.cfg.section_ = e.sec ∧ t.shared = s.shared))
          ∧ (checkImage s j.bytes = none → j.delta = true → Runs .imageCheckDone s (fun t =>
            phase t .storing ∧ t.cfg.stage = 15 ∧ t.cfg.status = 1 ∧ RunsOn s t))
          ∧ (checkImage s j.bytes = none → j.delta = false → Runs .imageCheckDone s (fun t =>
            phase t .stopping ∧ t.cfg.stage = 8 ∧ t.run = s.run ∧ t.gen = s.gen
              ∧ ((s.tcfg k).kind ≠ 0 → (s.task k).st = .idle → (s.task k).wanted = false → lanePending k s = false →
                  (t.task k).st = .stopped ∧ (t.task k).cause = 6)
              ∧ ((s.task k).st = .running → (t.task k).st = .running ∧ (t.task k).stopReq
                  = (if (s.task k).stopReq = some 1 ∨ (s.task k).stopReq = some 7 then some 6 else (s.task k).stopReq.or (some 6)))
              ∧ ((s.task k).st = .fault → t.task k = s.task k))))
      ∧ (job → j.phase = .partner → j.staged + 2000000000 ≤ s.now → Runs .partnerRefused s (fun t => EndsRefused s t 7 0x12 0))
      ∧ (job → s.now < j.staged + 2000000000 → Runs .partnerRefused s (fun t => t = s))
      ∧ (s.cfg.job = none → Runs .partnerRefused s (fun t => t = s))
      ∧ (Arrives s rx → alone → digest.length = 32 → Runs (.loadCheck ⟨rx, delta⟩ result digest) s (fun t => t = got)
          ∧ Runs (.loadCommit ⟨rx, k⟩ act) s (fun t => t = got))
      ∧ (Arrives s rx → pairLoads s = true → job → j.phase = .partner → digest.length = 32 →
          (¬same → Runs (.loadCheck ⟨rx, delta⟩ result digest) s (fun t =>
              t = { s with red := { got.red with loadCheck := some (delta, result, digest) } }))
            ∧ (same → result ≠ 0 → Runs (.loadCheck ⟨rx, delta⟩ result digest) s (fun t => EndsRefused s t 7 0x12 0))
            ∧ (same → result = 0 → j.delta = true → Runs (.loadCheck ⟨rx, delta⟩ result digest) s (fun t =>
              phase t .storing ∧ t.cfg.stage = 15 ∧ RunsOn s t))
            ∧ (same → result = 0 → j.delta = false → s.red.st = .active → Runs (.loadCheck ⟨rx, delta⟩ result digest) s (fun t =>
              ∃ y, t.cfg.job = some y ∧ y.commit = some (topTask s, (s.task (topTask s)).actCnt + 1) ∧ t.run = s.run))
            ∧ (same → result = 0 → j.delta = false → s.red.st ≠ .active → Runs (.loadCheck ⟨rx, delta⟩ result digest) s (fun t =>
              t = { s with red := { got.red with loadCheck := none } }))
            ∧ (s.red.st ≠ .active → j.delta = false → Runs (.loadCommit ⟨rx, k⟩ act) s (fun t =>
              ∃ y, t.cfg.job = some y ∧ y.commit = some (k.val, act) ∧ t.run = s.run)))
      ∧ (job → j.phase = .stopping → tasksStopped s = true → j.resync = none → s.run.pair = false → j.new_.pair = false → calmRole →
          Runs (.loadStopDone rt) s (fun t => t.run = j.new_ ∧ t.gen = s.gen + 1 ∧ t.cfg.job = none ∧ t.cfg.stage = 14
            ∧ t.cfg.flash = j.new_ ∧ t.cfg.flashGen = s.gen + 1
            ∧ (rt.selftestFail = 0 → rt.frameFail = [] → t.cfg.status = 0
                ∧ ((taskCfg j.new_ k).kind ≠ 4 → (t.task k).actCnt = 0
                    ∧ (t.task k).st = (if (taskCfg j.new_ k).kind = 0 then .unused else .idle)))
            ∧ (rt.selftestFail ≠ 0 → t.cfg.status = 0x0E) ∧ (rt.selftestFail = 0 → rt.frameFail ≠ [] → t.cfg.status = 0x0D)))
      ∧ (job → j.phase = .stopping → tasksStopped s = false → Runs (.loadStopDone rt) s (fun t => t = s))
      ∧ (quiet → x.restart = .selftest →
          Runs (.regionSelftestDone n true) s (fun t => t.region n = { x with restart := .loading, st := .loading }
              ∧ (∀ m : Nat, m ≠ n.val → t.region m = s.region m) ∧ { t with regions := s.regions } = s)
            ∧ (calmRole → Runs (.regionSelftestDone n false) s (fun t => (t.region n).st = .fault ∧ (t.region n).restart = .none
              ∧ t.tasks = s.tasks ∧ RaisesOne s t 0x0001)))
      ∧ (quiet → x.restart = .loading →
          Runs (.regionLoadDone n 0 none) s (fun t =>
              (t.region n).restart = .none ∧ (t.region n).p0 = imagePlane s.run n ∧ (t.region n).p1 = imagePlane s.run n
                ∧ (∀ o, regionOwner s.run n = some o → (s.task o).st = .stopped → (s.tcfg o).kind ≠ 0 → (s.tcfg o).kind ≠ 4 →
                    (∀ m ∈ taskRegions (s.tcfg o), m ≠ n.val → (s.region m).st ≠ .fault ∧ (s.region m).restart = .none) →
                    (∀ e, s.cfg.job = some e → e.edit.map.restart = false ∨ e.phase ≠ .recess ∨ e.edit.task ≠ o) →
                    (t.task o).st = .idle ∧ (t.task o).bb = (s.task o).bb ∧ (t.task o).actCnt = 0))
            ∧ (calmRole → ∀ f, Runs (.regionLoadDone n 0 (some f)) s (fun t => (t.region n).st = .fault ∧ (t.region n).restart = .none
              ∧ t.tasks = s.tasks ∧ RaisesOne s t 0x0001)))

/-- R49, R50, R153–R156, R158–R160, R166, Tables 6-8 to 6-10: an edit is stored, staged with its shadow planes read back,
agreed, enters Recess at the task's boundary with the planes swapped, leaves it with the next generation, is recorded and
consolidated; what fails leaves what runs. -/
def Obligations.EditsGoFromStoreToRecord : Prop :=
  ∀ (s : State) (j : LoadJob) (k : TaskId) (b : Word) (rx : TrelexRx),
    let job := s.cfg.job = some j ∧ j.delta = true
    let e := j.edit.task
    let phase (t : State) (p : LoadPhase) : Prop := ∃ x, t.cfg.job = some x ∧ x.phase = p ∧ x.bytes = j.bytes ∧ x.delta = true
    let kept (t : State) (kind : Nat) : Prop := ∃ r, t.cfg.edits = s.cfg.edits ++ [r] ∧ r.kind = kind ∧ r.gen = hdrGen j.bytes ∧ r.task = e
    let others (t : State) : Prop := ∀ u : Nat, u ≠ e → t.task u = s.task u
    let upsetShadow (m : Nat) : Prop := ∃ b ∈ (s.region m).flips, b.plane1 ≠ (s.region m).plane1
    let calm := (s.task e).pending = false ∧ standby s = false
    let sound := s.stor.worn = [] ∧ s.stor.retired = []
    (job → j.phase = .storing →
        (sound → stagingFull s = false → Runs (.editStored true) s (fun t => phase t .staging ∧ t.cfg.stage = 16 ∧ kept t 1 ∧ RunsOn s t
            ∧ ∀ m : Nat, (m ∉ swapRegions j → t.region m = s.region m)
              ∧ (m ∈ swapRegions j → (t.region m).active = (s.region m).active ∧ (t.region m).shadow = imagePlane j.new_ m
                  ∧ (t.region m).shadowReady = false ∧ (t.region m).bits = (s.region m).bits)))
          ∧ ∀ ok, ok = false ∨ stagingFull s = true → Runs (.editStored ok) s (fun t => EndsRefused s t 15 0x10 0 ∧ t.cfg.edits = s.cfg.edits))
      ∧ (job → j.phase = .staging → pairLoads s = true → s.red.st = .active → s.red.linkUp = true → Runs .editStaged s (fun t =>
          let b := (s.task e).actCnt + (if (s.tcfg e).kind = 1 ∨ (s.tcfg e).kind = 4 then 2 else 1)
          phase t .waiting ∧ RunsOn s t ∧ (∃ x, t.cfg.job = some x ∧ x.commit = some (e, b))
            ∧ Sends t 8 ([5, 0, 0, 0] ++ ([BitVec.ofNat 8 e, 0, 0, 0] ++ wordBytes b))))
      ∧ (job → j.phase = .staging → pairLoads s = false → Runs .editStaged s (fun t => phase t .waiting ∧ t.cfg.stage = 17 ∧ RunsOn s t
          ∧ ∀ m : Nat, (m ∉ swapRegions j → t.region m = s.region m)
            ∧ (m ∈ swapRegions j → upsetShadow m → t.region m = s.region m)
            ∧ (m ∈ swapRegions j → ¬upsetShadow m →
                t.region m = { s.region m with shadowReady := true, shadowGen := hdrGen j.bytes })))
      ∧ (job → Arrives s rx → pairLoads s = true → s.red.st ≠ .active → e = k.val → Runs (.editAgree ⟨rx, k⟩ b) s (fun t =>
          t = { heard rx s with cfg := { s.cfg with job := some { j with commit := some (k.val, b) } } }))
      ∧ (Arrives s rx → pairLoads s = false → Runs (.editAgree ⟨rx, k⟩ b) s (fun t => t = heard rx s))
      ∧ (job → j.phase = .waiting →
          (recessEdge j s = false → Runs .recessStart s (fun t => t = s))
            ∧ (recessEdge j s = true → notReady j s = none → j.edit.map.restart = false → Runs .recessStart s (fun t =>
              phase t .recess ∧ t.cfg.stage = 18 ∧ (t.task e).st = .recess ∧ others t ∧ t.run = s.run ∧ t.gen = s.gen
                ∧ ∀ m ∈ swapRegions j, (t.region m).active = (s.region m).shadow ∧ (t.region m).bits = (s.region m).bits))
            ∧ (recessEdge j s = true → notReady j s = none → j.edit.map.restart = true → (s.tcfg e).kind ≠ 0 → (s.task e).st = .idle →
              Runs .recessStart s (fun t => phase t .recess ∧ t.cfg.stage = 18 ∧ (t.task e).st = .stopped ∧ (t.task e).cause = 7
                ∧ t.run = s.run ∧ t.gen = s.gen))
            ∧ (∀ m, calm → recessEdge j s = true → notReady j s = some m → Runs .recessStart s (fun t => EndsRefused s t 17 0x1A m ∧ kept t 3))
            ∧ (calm → j.staged + 30000000000 ≤ s.now → Runs .recessTimeout s (fun t => EndsRefused s t 17 0x19 0 ∧ kept t 3))
            ∧ (s.now < j.staged + 30000000000 → Runs .recessTimeout s (fun t => t = s)))
      ∧ (job → j.phase = .recess → j.edit.map.restart = false → Runs .recessExit s (fun t =>
          phase t .recording ∧ t.cfg.stage = 19 ∧ t.run = j.new_ ∧ t.gen = s.gen + 1
            ∧ (j.was = .idle → (taskCfg j.new_ e).kind = 1 → (s.task e).st = .recess → (s.task e).stopReq = none → standby s = false →
                (t.task e).st = .idle ∧ (t.task e).actCnt = (s.task e).actCnt
                ∧ ((taskCfg j.new_ e).period ≠ (s.tcfg e).period → (t.task e).lastDue = some s.tbrd)
                ∧ (j.commit = none → ∃ x, t.cfg.job = some x ∧ x.act = (s.task e).actCnt + 1)
                ∧ (s.img.glides = [] → s.img.lostWords = none → ∀ n q, routeOf j.new_ true n = some q → q.owner.toNat = e →
                    t.qwGet n = s.qwGet n))
            ∧ ∀ m ∈ swapRegions j, (t.region m).gen = s.gen + 1))
      ∧ (job → j.phase = .recording → Runs .appliedRecord s (fun t => t.cfg.job = none ∧ t.cfg.stage = 19 ∧ t.cfg.status = 0
          ∧ t.cfg.flash = s.run ∧ t.cfg.flashGen = s.gen ∧ t.cfg.consolid = true ∧ kept t 2 ∧ RunsOn s t))
      ∧ (sound → s.cfg.consolid = true → Runs .consolidationDone s (fun t => t.cfg.consolid = false ∧ RunsOn s t
          ∧ t.cfg.edits = s.cfg.edits.filter (fun r => ahead r.gen s.cfg.flashGen)
          ∧ { t with cfg := { t.cfg with consolid := true, edits := s.cfg.edits }, stor := s.stor } = s))
      ∧ (s.cfg.consolid = false → Runs .consolidationDone s (fun t => t = s))

/-! ### The whole module -/

/-- A step runs the command at the front of the queue on the state with the queue's rest. -/
def Obligations.StepRunsTheFrontCommand : Prop :=
  ∀ (i : Instr) (rest : List Instr) (s : State), s.pending = i :: rest → step s = exec i { s with pending := rest }

/-- Every command is carried out: none faults and none is refused; the queue's rest and the variant stay. -/
def Obligations.EveryCommandAnswersANextState : Prop :=
  ∀ (i : Instr) (s : State), ∃ t, exec i s = .next t ∧ t.pending = s.pending ∧ t.variant = s.variant

/-- Reset meets the two invariants below. -/
def Obligations.ResetStateIsWellKept : Prop :=
 memoriesWf State.reset ∧ clocksWf State.reset ∧ State.reset.pending = []

/-- Every step keeps every byte memory in canonical form: SHARED, SAFE_IN, SAFE_OUT, the transfer buffer, the MSI-X table, each engine's
instruction SRAM and LOCAL. -/
def Obligations.EveryStepKeepsTheMemoriesCanonical : Prop :=
  ∀ (s t : State), memoriesWf s → step s = .next t → memoriesWf t

/-- R340: every step keeps the sub-second prescaler within 0–32,767, with the phases of CK_RTC and of the operating time in range. -/
def Obligations.EveryStepKeepsTheClockFieldsInRange : Prop :=
  ∀ (s t : State), clocksWf s → step s = .next t → clocksWf t
end

