-- ==== Sys2Proof/Laws/Tab.lean ====
section
/-! SUPPORT. Laws of the sparse tables and byte memories: reading after writing, the canonical form kept by every write. -/

namespace Sys2Proof.Machine

variable {α : Type} [DecidableEq α]

omit [DecidableEq α] in
theorem tget_tcut_same (d : α) (t : Tab α) (k : Nat) : tget d (tcut t k) k = d := by
  induction t with
  | nil => rfl
  | cons e r ih => by_cases h : k = e.1 <;> simp [tcut, tget, h, ih] <;> simpa [h] using ih

omit [DecidableEq α] in
theorem tget_tcut_other (d : α) (t : Tab α) (k j : Nat) (h : j ≠ k) : tget d (tcut t k) j = tget d t j := by
  induction t with
  | nil => rfl
  | cons e r ih =>
    by_cases hk : k = e.1
    · have : j ≠ e.1 := by omega
      simp [tcut, tget, hk, this]; simpa [hk] using ih
    · simp [tcut, tget, hk, ih]

omit [DecidableEq α] in
theorem tget_tput (d : α) (t : Tab α) (k j : Nat) (v : α) (h : tget d t k = d) (hk : ∀ e ∈ t, e.1 ≠ k) :
    tget d (tput t k v) j = if j = k then v else tget d t j := by
  induction t with
  | nil => simp [tput, tget]
  | cons e r ih =>
    have h1 : e.1 ≠ k := hk e (by simp)
    have h2 : ∀ e ∈ r, e.1 ≠ k := fun x hx => hk x (by simp [hx])
    have h3 : tget d r k = d := by simpa [tget, Ne.symm h1] using h
    simp only [tput]
    split
    · simp [tget]
    · simp only [tget, ih h3 h2]
      by_cases hj : j = e.1
      · simp [hj, h1]
      · simp [hj]

omit [DecidableEq α] in
theorem tcut_keys (t : Tab α) (k : Nat) : ∀ e ∈ tcut t k, e.1 ≠ k := by
  induction t with
  | nil => simp [tcut]
  | cons e r ih =>
    intro x hx
    by_cases hk : k = e.1
    · simp only [tcut, if_pos hk] at hx; exact ih x hx
    · simp only [tcut, if_neg hk, List.mem_cons] at hx
      rcases hx with rfl | hx
      · exact fun h => hk h.symm
      · exact ih x hx

/-- What a table holds after a write. -/
theorem tget_tset (d : α) (t : Tab α) (k j : Nat) (v : α) : tget d (tset d t k v) j = if j = k then v else tget d t j := by
  unfold tset
  split
  · rename_i hv
    by_cases hj : j = k
    · simp [hj, hv, tget_tcut_same]
    · simp [hj, tget_tcut_other]
  · rw [tget_tput d _ _ _ _ (tget_tcut_same d t k) (tcut_keys t k)]
    by_cases hj : j = k
    · simp [hj]
    · simp [hj, tget_tcut_other]

@[simp] theorem tget_tset_same (d : α) (t : Tab α) (k : Nat) (v : α) : tget d (tset d t k v) k = v := by
  simp [tget_tset]

theorem tget_tset_other (d : α) (t : Tab α) (k j : Nat) (v : α) (hj : j ≠ k) :
    tget d (tset d t k v) j = tget d t j := by simp [tget_tset, hj]

theorem twfFrom_loosen (d : α) (t : Tab α) (a : Nat) (lo : Option Nat) (h : ∀ l, lo = some l → l ≤ a)
    (hw : twfFrom d (some a) t = true) : twfFrom d lo t = true := by
  cases t with
  | nil => rfl
  | cons e r =>
    simp only [twfFrom, Bool.and_eq_true, decide_eq_true_eq] at hw ⊢
    refine ⟨⟨?_, hw.1.2⟩, hw.2⟩
    cases lo with
    | none => rfl
    | some l => have := h l rfl; simp only [decide_eq_true_eq]; omega

theorem twfFrom_tcut (d : α) (t : Tab α) (k : Nat) (lo : Option Nat) (h : twfFrom d lo t = true) :
    twfFrom d lo (tcut t k) = true := by
  induction t generalizing lo with
  | nil => rfl
  | cons e r ih =>
    have h0 := h
    simp only [twfFrom, Bool.and_eq_true] at h
    simp only [tcut]
    split
    · refine twfFrom_loosen d _ e.1 lo ?_ (ih (some e.1) h.2)
      intro l hl
      subst hl
      have := h.1.1
      simp only [decide_eq_true_eq] at this
      omega
    · simp only [twfFrom, Bool.and_eq_true]
      exact ⟨h.1, ih (some e.1) h.2⟩

theorem twfFrom_tput (d : α) (t : Tab α) (k : Nat) (v : α) (lo : Option Nat) (hv : v ≠ d) (hk : ∀ e ∈ t, e.1 ≠ k)
    (hlo : ∀ l, lo = some l → l < k) (h : twfFrom d lo t = true) : twfFrom d lo (tput t k v) = true := by
  induction t generalizing lo with
  | nil =>
    simp only [tput, twfFrom, Bool.and_true, Bool.and_eq_true]
    refine ⟨?_, by simp [hv]⟩
    cases lo with
    | none => rfl
    | some l => simpa using hlo l rfl
  | cons e r ih =>
    have h1 : e.1 ≠ k := hk e (by simp)
    simp only [twfFrom, Bool.and_eq_true] at h
    simp only [tput]
    split
    · rename_i h2
      simp only [twfFrom, Bool.and_eq_true]
      refine ⟨⟨?_, by simp [hv]⟩, ⟨by simpa using h2, h.1.2⟩, h.2⟩
      cases lo with
      | none => rfl
      | some l => simpa using hlo l rfl
    · simp only [twfFrom, Bool.and_eq_true]
      refine ⟨h.1, ih (some e.1) (fun x hx => hk x (by simp [hx])) ?_ h.2⟩
      intro l hl
      have : e.1 = l := by simpa using hl
      omega

/-- A write keeps the canonical form. -/
theorem twf_tset (d : α) (t : Tab α) (k : Nat) (v : α) (h : twf d t = true) : twf d (tset d t k v) = true := by
  unfold tset
  split
  · exact twfFrom_tcut d t k none h
  · rename_i hv
    exact twfFrom_tput d _ k v none hv (tcut_keys t k) (by simp) (twfFrom_tcut d t k none h)

theorem twf_nil (d : α) : twf d ([] : Tab α) = true := rfl

/-! ### Byte memories -/

theorem Memory.wf_nil : Memory.wf [] = true := rfl

theorem writeByte_wf (m : Memory) (a : Nat) (b : Byte) (h : m.wf = true) : (writeByte m a b).wf = true :=
  twf_tset 0 m a b h

theorem writeBytes_wf (m : Memory) (a : Nat) (bs : List Byte) (h : m.wf = true) : (writeBytes m a bs).wf = true := by
  induction bs generalizing m a with
  | nil => exact h
  | cons b r ih => exact ih _ _ (writeByte_wf m a b h)

theorem readByte_writeByte_same (m : Memory) (a : Nat) (b : Byte) : readByte (writeByte m a b) a = b :=
  tget_tset_same 0 m a b

theorem readByte_writeByte_other (m : Memory) (a x : Nat) (b : Byte) (h : x ≠ a) :
    readByte (writeByte m a b) x = readByte m x := tget_tset_other 0 m a x b h

/-- Bytes outside the written range read as before. -/
theorem readByte_writeBytes_other (m : Memory) (a x : Nat) (bs : List Byte) (h : x < a ∨ a + bs.length ≤ x) :
    readByte (writeBytes m a bs) x = readByte m x := by
  induction bs generalizing m a with
  | nil => rfl
  | cons b r ih =>
    simp only [List.length_cons] at h
    rw [writeBytes, ih _ _ (by omega), readByte_writeByte_other _ _ _ _ (by omega)]

/-- A written byte reads back. -/
theorem readByte_writeBytes_in (m : Memory) (a : Nat) (bs : List Byte) (k : Nat) (hk : k < bs.length) :
    readByte (writeBytes m a bs) (a + k) = bs[k] := by
  induction bs generalizing m a k with
  | nil => simp at hk
  | cons b r ih =>
    cases k with
    | zero => rw [writeBytes, readByte_writeBytes_other _ _ _ _ (by omega)]; exact readByte_writeByte_same m a b
    | succ k =>
      have := ih (writeByte m a b) (a + 1) k (by simpa using hk)
      simpa [writeBytes, Nat.add_assoc, Nat.add_comm 1 k] using this

theorem readBytes_length (m : Memory) (a n : Nat) : (readBytes m a n).length = n := by
  induction n generalizing a with
  | zero => rfl
  | succ n ih => simp [readBytes, ih]

theorem leBytes_length (n v : Nat) : (leBytes n v).length = n := by
  induction n generalizing v with
  | zero => rfl
  | succ n ih => simp [leBytes, ih]

/-- Reading the little-endian bytes of a number gives the number. -/
theorem ofLe_leBytes (n v : Nat) (h : v < 256 ^ n) : ofLe (leBytes n v) = v := by
  induction n generalizing v with
  | zero => simp at h; simp [leBytes, ofLe, h]
  | succ n ih =>
    have h2 : v / 256 < 256 ^ n := by rw [Nat.pow_succ] at h; exact Nat.div_lt_of_lt_mul (by omega)
    simp only [leBytes, ofLe, ih _ h2, BitVec.toNat_ofNat]
    omega

theorem padTo_length (n : Nat) (bs : List Byte) : (padTo n bs).length = n := by
  simp [padTo]; omega

end Sys2Proof.Machine
end

