-- ==== Sys2Proof/Laws/State.lean ====
section
/-! SUPPORT. What each update of one unit does to each field of the state, and what the unit reads as afterwards. -/

namespace Sys2Proof.Machine

variable (s : State)

@[simp] theorem setTask_pending (t : Nat) (x : TaskSt) : (s.setTask t x).pending = s.pending := rfl
@[simp] theorem setTask_now (t : Nat) (x : TaskSt) : (s.setTask t x).now = s.now := rfl
@[simp] theorem setTask_opMs (t : Nat) (x : TaskSt) : (s.setTask t x).opMs = s.opMs := rfl
@[simp] theorem setTask_opNs (t : Nat) (x : TaskSt) : (s.setTask t x).opNs = s.opNs := rfl
@[simp] theorem setTask_free (t : Nat) (x : TaskSt) : (s.setTask t x).free = s.free := rfl
@[simp] theorem setTask_stamp (t : Nat) (x : TaskSt) : (s.setTask t x).stamp = s.stamp := rfl
@[simp] theorem setTask_clockNs (t : Nat) (x : TaskSt) : (s.setTask t x).clockNs = s.clockNs := rfl
@[simp] theorem setTask_variant (t : Nat) (x : TaskSt) : (s.setTask t x).variant = s.variant := rfl
@[simp] theorem setTask_sup (t : Nat) (x : TaskSt) : (s.setTask t x).sup = s.sup := rfl
@[simp] theorem setTask_host (t : Nat) (x : TaskSt) : (s.setTask t x).host = s.host := rfl
@[simp] theorem setTask_mb (t : Nat) (x : TaskSt) : (s.setTask t x).mb = s.mb := rfl
@[simp] theorem setTask_cfg (t : Nat) (x : TaskSt) : (s.setTask t x).cfg = s.cfg := rfl
@[simp] theorem setTask_run (t : Nat) (x : TaskSt) : (s.setTask t x).run = s.run := rfl
@[simp] theorem setTask_gen (t : Nat) (x : TaskSt) : (s.setTask t x).gen = s.gen := rfl
@[simp] theorem setTask_img (t : Nat) (x : TaskSt) : (s.setTask t x).img = s.img := rfl
@[simp] theorem setTask_tasks (t : Nat) (x : TaskSt) : (s.setTask t x).tasks = tset {} s.tasks t x := rfl
@[simp] theorem setTask_regions (t : Nat) (x : TaskSt) : (s.setTask t x).regions = s.regions := rfl
@[simp] theorem setTask_timers (t : Nat) (x : TaskSt) : (s.setTask t x).timers = s.timers := rfl
@[simp] theorem setTask_engines (t : Nat) (x : TaskSt) : (s.setTask t x).engines = s.engines := rfl
@[simp] theorem setTask_shared (t : Nat) (x : TaskSt) : (s.setTask t x).shared = s.shared := rfl
@[simp] theorem setTask_rtc (t : Nat) (x : TaskSt) : (s.setTask t x).rtc = s.rtc := rfl
@[simp] theorem setTask_stor (t : Nat) (x : TaskSt) : (s.setTask t x).stor = s.stor := rfl
@[simp] theorem setTask_diary (t : Nat) (x : TaskSt) : (s.setTask t x).diary = s.diary := rfl
@[simp] theorem setTask_chans (t : Nat) (x : TaskSt) : (s.setTask t x).chans = s.chans := rfl
@[simp] theorem setTask_net (t : Nat) (x : TaskSt) : (s.setTask t x).net = s.net := rfl
@[simp] theorem setTask_es (t : Nat) (x : TaskSt) : (s.setTask t x).es = s.es := rfl
@[simp] theorem setTask_safe (t : Nat) (x : TaskSt) : (s.setTask t x).safe = s.safe := rfl
@[simp] theorem setTask_red (t : Nat) (x : TaskSt) : (s.setTask t x).red = s.red := rfl
@[simp] theorem setTask_upd (t : Nat) (x : TaskSt) : (s.setTask t x).upd = s.upd := rfl

@[simp] theorem setRegion_pending (r : Nat) (x : RegionSt) : (s.setRegion r x).pending = s.pending := rfl
@[simp] theorem setRegion_now (r : Nat) (x : RegionSt) : (s.setRegion r x).now = s.now := rfl
@[simp] theorem setRegion_opMs (r : Nat) (x : RegionSt) : (s.setRegion r x).opMs = s.opMs := rfl
@[simp] theorem setRegion_opNs (r : Nat) (x : RegionSt) : (s.setRegion r x).opNs = s.opNs := rfl
@[simp] theorem setRegion_free (r : Nat) (x : RegionSt) : (s.setRegion r x).free = s.free := rfl
@[simp] theorem setRegion_stamp (r : Nat) (x : RegionSt) : (s.setRegion r x).stamp = s.stamp := rfl
@[simp] theorem setRegion_clockNs (r : Nat) (x : RegionSt) : (s.setRegion r x).clockNs = s.clockNs := rfl
@[simp] theorem setRegion_variant (r : Nat) (x : RegionSt) : (s.setRegion r x).variant = s.variant := rfl
@[simp] theorem setRegion_sup (r : Nat) (x : RegionSt) : (s.setRegion r x).sup = s.sup := rfl
@[simp] theorem setRegion_host (r : Nat) (x : RegionSt) : (s.setRegion r x).host = s.host := rfl
@[simp] theorem setRegion_mb (r : Nat) (x : RegionSt) : (s.setRegion r x).mb = s.mb := rfl
@[simp] theorem setRegion_cfg (r : Nat) (x : RegionSt) : (s.setRegion r x).cfg = s.cfg := rfl
@[simp] theorem setRegion_run (r : Nat) (x : RegionSt) : (s.setRegion r x).run = s.run := rfl
@[simp] theorem setRegion_gen (r : Nat) (x : RegionSt) : (s.setRegion r x).gen = s.gen := rfl
@[simp] theorem setRegion_img (r : Nat) (x : RegionSt) : (s.setRegion r x).img = s.img := rfl
@[simp] theorem setRegion_tasks (r : Nat) (x : RegionSt) : (s.setRegion r x).tasks = s.tasks := rfl
@[simp] theorem setRegion_regions (r : Nat) (x : RegionSt) : (s.setRegion r x).regions = tset {} s.regions r x := rfl
@[simp] theorem setRegion_timers (r : Nat) (x : RegionSt) : (s.setRegion r x).timers = s.timers := rfl
@[simp] theorem setRegion_engines (r : Nat) (x : RegionSt) : (s.setRegion r x).engines = s.engines := rfl
@[simp] theorem setRegion_shared (r : Nat) (x : RegionSt) : (s.setRegion r x).shared = s.shared := rfl
@[simp] theorem setRegion_rtc (r : Nat) (x : RegionSt) : (s.setRegion r x).rtc = s.rtc := rfl
@[simp] theorem setRegion_stor (r : Nat) (x : RegionSt) : (s.setRegion r x).stor = s.stor := rfl
@[simp] theorem setRegion_diary (r : Nat) (x : RegionSt) : (s.setRegion r x).diary = s.diary := rfl
@[simp] theorem setRegion_chans (r : Nat) (x : RegionSt) : (s.setRegion r x).chans = s.chans := rfl
@[simp] theorem setRegion_net (r : Nat) (x : RegionSt) : (s.setRegion r x).net = s.net := rfl
@[simp] theorem setRegion_es (r : Nat) (x : RegionSt) : (s.setRegion r x).es = s.es := rfl
@[simp] theorem setRegion_safe (r : Nat) (x : RegionSt) : (s.setRegion r x).safe = s.safe := rfl
@[simp] theorem setRegion_red (r : Nat) (x : RegionSt) : (s.setRegion r x).red = s.red := rfl
@[simp] theorem setRegion_upd (r : Nat) (x : RegionSt) : (s.setRegion r x).upd = s.upd := rfl

@[simp] theorem setTimer_pending (n : Nat) (x : TimerSt) : (s.setTimer n x).pending = s.pending := rfl
@[simp] theorem setTimer_now (n : Nat) (x : TimerSt) : (s.setTimer n x).now = s.now := rfl
@[simp] theorem setTimer_opMs (n : Nat) (x : TimerSt) : (s.setTimer n x).opMs = s.opMs := rfl
@[simp] theorem setTimer_opNs (n : Nat) (x : TimerSt) : (s.setTimer n x).opNs = s.opNs := rfl
@[simp] theorem setTimer_free (n : Nat) (x : TimerSt) : (s.setTimer n x).free = s.free := rfl
@[simp] theorem setTimer_stamp (n : Nat) (x : TimerSt) : (s.setTimer n x).stamp = s.stamp := rfl
@[simp] theorem setTimer_clockNs (n : Nat) (x : TimerSt) : (s.setTimer n x).clockNs = s.clockNs := rfl
@[simp] theorem setTimer_variant (n : Nat) (x : TimerSt) : (s.setTimer n x).variant = s.variant := rfl
@[simp] theorem setTimer_sup (n : Nat) (x : TimerSt) : (s.setTimer n x).sup = s.sup := rfl
@[simp] theorem setTimer_host (n : Nat) (x : TimerSt) : (s.setTimer n x).host = s.host := rfl
@[simp] theorem setTimer_mb (n : Nat) (x : TimerSt) : (s.setTimer n x).mb = s.mb := rfl
@[simp] theorem setTimer_cfg (n : Nat) (x : TimerSt) : (s.setTimer n x).cfg = s.cfg := rfl
@[simp] theorem setTimer_run (n : Nat) (x : TimerSt) : (s.setTimer n x).run = s.run := rfl
@[simp] theorem setTimer_gen (n : Nat) (x : TimerSt) : (s.setTimer n x).gen = s.gen := rfl
@[simp] theorem setTimer_img (n : Nat) (x : TimerSt) : (s.setTimer n x).img = s.img := rfl
@[simp] theorem setTimer_tasks (n : Nat) (x : TimerSt) : (s.setTimer n x).tasks = s.tasks := rfl
@[simp] theorem setTimer_regions (n : Nat) (x : TimerSt) : (s.setTimer n x).regions = s.regions := rfl
@[simp] theorem setTimer_timers (n : Nat) (x : TimerSt) : (s.setTimer n x).timers = tset {} s.timers n x := rfl
@[simp] theorem setTimer_engines (n : Nat) (x : TimerSt) : (s.setTimer n x).engines = s.engines := rfl
@[simp] theorem setTimer_shared (n : Nat) (x : TimerSt) : (s.setTimer n x).shared = s.shared := rfl
@[simp] theorem setTimer_rtc (n : Nat) (x : TimerSt) : (s.setTimer n x).rtc = s.rtc := rfl
@[simp] theorem setTimer_stor (n : Nat) (x : TimerSt) : (s.setTimer n x).stor = s.stor := rfl
@[simp] theorem setTimer_diary (n : Nat) (x : TimerSt) : (s.setTimer n x).diary = s.diary := rfl
@[simp] theorem setTimer_chans (n : Nat) (x : TimerSt) : (s.setTimer n x).chans = s.chans := rfl
@[simp] theorem setTimer_net (n : Nat) (x : TimerSt) : (s.setTimer n x).net = s.net := rfl
@[simp] theorem setTimer_es (n : Nat) (x : TimerSt) : (s.setTimer n x).es = s.es := rfl
@[simp] theorem setTimer_safe (n : Nat) (x : TimerSt) : (s.setTimer n x).safe = s.safe := rfl
@[simp] theorem setTimer_red (n : Nat) (x : TimerSt) : (s.setTimer n x).red = s.red := rfl
@[simp] theorem setTimer_upd (n : Nat) (x : TimerSt) : (s.setTimer n x).upd = s.upd := rfl

@[simp] theorem setEngine_pending (e : Nat) (x : EngineSt) : (s.setEngine e x).pending = s.pending := rfl
@[simp] theorem setEngine_now (e : Nat) (x : EngineSt) : (s.setEngine e x).now = s.now := rfl
@[simp] theorem setEngine_opMs (e : Nat) (x : EngineSt) : (s.setEngine e x).opMs = s.opMs := rfl
@[simp] theorem setEngine_opNs (e : Nat) (x : EngineSt) : (s.setEngine e x).opNs = s.opNs := rfl
@[simp] theorem setEngine_free (e : Nat) (x : EngineSt) : (s.setEngine e x).free = s.free := rfl
@[simp] theorem setEngine_stamp (e : Nat) (x : EngineSt) : (s.setEngine e x).stamp = s.stamp := rfl
@[simp] theorem setEngine_clockNs (e : Nat) (x : EngineSt) : (s.setEngine e x).clockNs = s.clockNs := rfl
@[simp] theorem setEngine_variant (e : Nat) (x : EngineSt) : (s.setEngine e x).variant = s.variant := rfl
@[simp] theorem setEngine_sup (e : Nat) (x : EngineSt) : (s.setEngine e x).sup = s.sup := rfl
@[simp] theorem setEngine_host (e : Nat) (x : EngineSt) : (s.setEngine e x).host = s.host := rfl
@[simp] theorem setEngine_mb (e : Nat) (x : EngineSt) : (s.setEngine e x).mb = s.mb := rfl
@[simp] theorem setEngine_cfg (e : Nat) (x : EngineSt) : (s.setEngine e x).cfg = s.cfg := rfl
@[simp] theorem setEngine_run (e : Nat) (x : EngineSt) : (s.setEngine e x).run = s.run := rfl
@[simp] theorem setEngine_gen (e : Nat) (x : EngineSt) : (s.setEngine e x).gen = s.gen := rfl
@[simp] theorem setEngine_img (e : Nat) (x : EngineSt) : (s.setEngine e x).img = s.img := rfl
@[simp] theorem setEngine_tasks (e : Nat) (x : EngineSt) : (s.setEngine e x).tasks = s.tasks := rfl
@[simp] theorem setEngine_regions (e : Nat) (x : EngineSt) : (s.setEngine e x).regions = s.regions := rfl
@[simp] theorem setEngine_timers (e : Nat) (x : EngineSt) : (s.setEngine e x).timers = s.timers := rfl
@[simp] theorem setEngine_engines (e : Nat) (x : EngineSt) : (s.setEngine e x).engines = tset {} s.engines e x := rfl
@[simp] theorem setEngine_shared (e : Nat) (x : EngineSt) : (s.setEngine e x).shared = s.shared := rfl
@[simp] theorem setEngine_rtc (e : Nat) (x : EngineSt) : (s.setEngine e x).rtc = s.rtc := rfl
@[simp] theorem setEngine_stor (e : Nat) (x : EngineSt) : (s.setEngine e x).stor = s.stor := rfl
@[simp] theorem setEngine_diary (e : Nat) (x : EngineSt) : (s.setEngine e x).diary = s.diary := rfl
@[simp] theorem setEngine_chans (e : Nat) (x : EngineSt) : (s.setEngine e x).chans = s.chans := rfl
@[simp] theorem setEngine_net (e : Nat) (x : EngineSt) : (s.setEngine e x).net = s.net := rfl
@[simp] theorem setEngine_es (e : Nat) (x : EngineSt) : (s.setEngine e x).es = s.es := rfl
@[simp] theorem setEngine_safe (e : Nat) (x : EngineSt) : (s.setEngine e x).safe = s.safe := rfl
@[simp] theorem setEngine_red (e : Nat) (x : EngineSt) : (s.setEngine e x).red = s.red := rfl
@[simp] theorem setEngine_upd (e : Nat) (x : EngineSt) : (s.setEngine e x).upd = s.upd := rfl

@[simp] theorem setChan_pending (c : Nat) (x : ChanSt) : (s.setChan c x).pending = s.pending := rfl
@[simp] theorem setChan_now (c : Nat) (x : ChanSt) : (s.setChan c x).now = s.now := rfl
@[simp] theorem setChan_opMs (c : Nat) (x : ChanSt) : (s.setChan c x).opMs = s.opMs := rfl
@[simp] theorem setChan_opNs (c : Nat) (x : ChanSt) : (s.setChan c x).opNs = s.opNs := rfl
@[simp] theorem setChan_free (c : Nat) (x : ChanSt) : (s.setChan c x).free = s.free := rfl
@[simp] theorem setChan_stamp (c : Nat) (x : ChanSt) : (s.setChan c x).stamp = s.stamp := rfl
@[simp] theorem setChan_clockNs (c : Nat) (x : ChanSt) : (s.setChan c x).clockNs = s.clockNs := rfl
@[simp] theorem setChan_variant (c : Nat) (x : ChanSt) : (s.setChan c x).variant = s.variant := rfl
@[simp] theorem setChan_sup (c : Nat) (x : ChanSt) : (s.setChan c x).sup = s.sup := rfl
@[simp] theorem setChan_host (c : Nat) (x : ChanSt) : (s.setChan c x).host = s.host := rfl
@[simp] theorem setChan_mb (c : Nat) (x : ChanSt) : (s.setChan c x).mb = s.mb := rfl
@[simp] theorem setChan_cfg (c : Nat) (x : ChanSt) : (s.setChan c x).cfg = s.cfg := rfl
@[simp] theorem setChan_run (c : Nat) (x : ChanSt) : (s.setChan c x).run = s.run := rfl
@[simp] theorem setChan_gen (c : Nat) (x : ChanSt) : (s.setChan c x).gen = s.gen := rfl
@[simp] theorem setChan_img (c : Nat) (x : ChanSt) : (s.setChan c x).img = s.img := rfl
@[simp] theorem setChan_tasks (c : Nat) (x : ChanSt) : (s.setChan c x).tasks = s.tasks := rfl
@[simp] theorem setChan_regions (c : Nat) (x : ChanSt) : (s.setChan c x).regions = s.regions := rfl
@[simp] theorem setChan_timers (c : Nat) (x : ChanSt) : (s.setChan c x).timers = s.timers := rfl
@[simp] theorem setChan_engines (c : Nat) (x : ChanSt) : (s.setChan c x).engines = s.engines := rfl
@[simp] theorem setChan_shared (c : Nat) (x : ChanSt) : (s.setChan c x).shared = s.shared := rfl
@[simp] theorem setChan_rtc (c : Nat) (x : ChanSt) : (s.setChan c x).rtc = s.rtc := rfl
@[simp] theorem setChan_stor (c : Nat) (x : ChanSt) : (s.setChan c x).stor = s.stor := rfl
@[simp] theorem setChan_diary (c : Nat) (x : ChanSt) : (s.setChan c x).diary = s.diary := rfl
@[simp] theorem setChan_chans (c : Nat) (x : ChanSt) : (s.setChan c x).chans = tset {} s.chans c x := rfl
@[simp] theorem setChan_net (c : Nat) (x : ChanSt) : (s.setChan c x).net = s.net := rfl
@[simp] theorem setChan_es (c : Nat) (x : ChanSt) : (s.setChan c x).es = s.es := rfl
@[simp] theorem setChan_safe (c : Nat) (x : ChanSt) : (s.setChan c x).safe = s.safe := rfl
@[simp] theorem setChan_red (c : Nat) (x : ChanSt) : (s.setChan c x).red = s.red := rfl
@[simp] theorem setChan_upd (c : Nat) (x : ChanSt) : (s.setChan c x).upd = s.upd := rfl

@[simp] theorem setIw_pending (n : Nat) (w : ImgWord) : (s.setIw n w).pending = s.pending := rfl
@[simp] theorem setIw_now (n : Nat) (w : ImgWord) : (s.setIw n w).now = s.now := rfl
@[simp] theorem setIw_opMs (n : Nat) (w : ImgWord) : (s.setIw n w).opMs = s.opMs := rfl
@[simp] theorem setIw_opNs (n : Nat) (w : ImgWord) : (s.setIw n w).opNs = s.opNs := rfl
@[simp] theorem setIw_free (n : Nat) (w : ImgWord) : (s.setIw n w).free = s.free := rfl
@[simp] theorem setIw_stamp (n : Nat) (w : ImgWord) : (s.setIw n w).stamp = s.stamp := rfl
@[simp] theorem setIw_clockNs (n : Nat) (w : ImgWord) : (s.setIw n w).clockNs = s.clockNs := rfl
@[simp] theorem setIw_variant (n : Nat) (w : ImgWord) : (s.setIw n w).variant = s.variant := rfl
@[simp] theorem setIw_sup (n : Nat) (w : ImgWord) : (s.setIw n w).sup = s.sup := rfl
@[simp] theorem setIw_host (n : Nat) (w : ImgWord) : (s.setIw n w).host = s.host := rfl
@[simp] theorem setIw_mb (n : Nat) (w : ImgWord) : (s.setIw n w).mb = s.mb := rfl
@[simp] theorem setIw_cfg (n : Nat) (w : ImgWord) : (s.setIw n w).cfg = s.cfg := rfl
@[simp] theorem setIw_run (n : Nat) (w : ImgWord) : (s.setIw n w).run = s.run := rfl
@[simp] theorem setIw_gen (n : Nat) (w : ImgWord) : (s.setIw n w).gen = s.gen := rfl
@[simp] theorem setIw_img (n : Nat) (w : ImgWord) : (s.setIw n w).img = { s.img with iw := tset {} s.img.iw n w } := rfl
@[simp] theorem setIw_tasks (n : Nat) (w : ImgWord) : (s.setIw n w).tasks = s.tasks := rfl
@[simp] theorem setIw_regions (n : Nat) (w : ImgWord) : (s.setIw n w).regions = s.regions := rfl
@[simp] theorem setIw_timers (n : Nat) (w : ImgWord) : (s.setIw n w).timers = s.timers := rfl
@[simp] theorem setIw_engines (n : Nat) (w : ImgWord) : (s.setIw n w).engines = s.engines := rfl
@[simp] theorem setIw_shared (n : Nat) (w : ImgWord) : (s.setIw n w).shared = s.shared := rfl
@[simp] theorem setIw_rtc (n : Nat) (w : ImgWord) : (s.setIw n w).rtc = s.rtc := rfl
@[simp] theorem setIw_stor (n : Nat) (w : ImgWord) : (s.setIw n w).stor = s.stor := rfl
@[simp] theorem setIw_diary (n : Nat) (w : ImgWord) : (s.setIw n w).diary = s.diary := rfl
@[simp] theorem setIw_chans (n : Nat) (w : ImgWord) : (s.setIw n w).chans = s.chans := rfl
@[simp] theorem setIw_net (n : Nat) (w : ImgWord) : (s.setIw n w).net = s.net := rfl
@[simp] theorem setIw_es (n : Nat) (w : ImgWord) : (s.setIw n w).es = s.es := rfl
@[simp] theorem setIw_safe (n : Nat) (w : ImgWord) : (s.setIw n w).safe = s.safe := rfl
@[simp] theorem setIw_red (n : Nat) (w : ImgWord) : (s.setIw n w).red = s.red := rfl
@[simp] theorem setIw_upd (n : Nat) (w : ImgWord) : (s.setIw n w).upd = s.upd := rfl

@[simp] theorem setQw_pending (n : Nat) (w : ImgWord) : (s.setQw n w).pending = s.pending := rfl
@[simp] theorem setQw_now (n : Nat) (w : ImgWord) : (s.setQw n w).now = s.now := rfl
@[simp] theorem setQw_opMs (n : Nat) (w : ImgWord) : (s.setQw n w).opMs = s.opMs := rfl
@[simp] theorem setQw_opNs (n : Nat) (w : ImgWord) : (s.setQw n w).opNs = s.opNs := rfl
@[simp] theorem setQw_free (n : Nat) (w : ImgWord) : (s.setQw n w).free = s.free := rfl
@[simp] theorem setQw_stamp (n : Nat) (w : ImgWord) : (s.setQw n w).stamp = s.stamp := rfl
@[simp] theorem setQw_clockNs (n : Nat) (w : ImgWord) : (s.setQw n w).clockNs = s.clockNs := rfl
@[simp] theorem setQw_variant (n : Nat) (w : ImgWord) : (s.setQw n w).variant = s.variant := rfl
@[simp] theorem setQw_sup (n : Nat) (w : ImgWord) : (s.setQw n w).sup = s.sup := rfl
@[simp] theorem setQw_host (n : Nat) (w : ImgWord) : (s.setQw n w).host = s.host := rfl
@[simp] theorem setQw_mb (n : Nat) (w : ImgWord) : (s.setQw n w).mb = s.mb := rfl
@[simp] theorem setQw_cfg (n : Nat) (w : ImgWord) : (s.setQw n w).cfg = s.cfg := rfl
@[simp] theorem setQw_run (n : Nat) (w : ImgWord) : (s.setQw n w).run = s.run := rfl
@[simp] theorem setQw_gen (n : Nat) (w : ImgWord) : (s.setQw n w).gen = s.gen := rfl
@[simp] theorem setQw_img (n : Nat) (w : ImgWord) : (s.setQw n w).img = { s.img with qw := tset {} s.img.qw n w } := rfl
@[simp] theorem setQw_tasks (n : Nat) (w : ImgWord) : (s.setQw n w).tasks = s.tasks := rfl
@[simp] theorem setQw_regions (n : Nat) (w : ImgWord) : (s.setQw n w).regions = s.regions := rfl
@[simp] theorem setQw_timers (n : Nat) (w : ImgWord) : (s.setQw n w).timers = s.timers := rfl
@[simp] theorem setQw_engines (n : Nat) (w : ImgWord) : (s.setQw n w).engines = s.engines := rfl
@[simp] theorem setQw_shared (n : Nat) (w : ImgWord) : (s.setQw n w).shared = s.shared := rfl
@[simp] theorem setQw_rtc (n : Nat) (w : ImgWord) : (s.setQw n w).rtc = s.rtc := rfl
@[simp] theorem setQw_stor (n : Nat) (w : ImgWord) : (s.setQw n w).stor = s.stor := rfl
@[simp] theorem setQw_diary (n : Nat) (w : ImgWord) : (s.setQw n w).diary = s.diary := rfl
@[simp] theorem setQw_chans (n : Nat) (w : ImgWord) : (s.setQw n w).chans = s.chans := rfl
@[simp] theorem setQw_net (n : Nat) (w : ImgWord) : (s.setQw n w).net = s.net := rfl
@[simp] theorem setQw_es (n : Nat) (w : ImgWord) : (s.setQw n w).es = s.es := rfl
@[simp] theorem setQw_safe (n : Nat) (w : ImgWord) : (s.setQw n w).safe = s.safe := rfl
@[simp] theorem setQw_red (n : Nat) (w : ImgWord) : (s.setQw n w).red = s.red := rfl
@[simp] theorem setQw_upd (n : Nat) (w : ImgWord) : (s.setQw n w).upd = s.upd := rfl

/-- The unit written reads back; the others read as before. -/
theorem setTask_task (t : Nat) (x : TaskSt) (u : Nat) : (s.setTask t x).task u = if u = t then x else s.task u := tget_tset _ _ _ _ _
@[simp] theorem setTask_task_same (t : Nat) (x : TaskSt) : (s.setTask t x).task t = x := tget_tset_same _ _ _ _
theorem modTask_task (t u : Nat) (f : TaskSt → TaskSt) : (s.modTask t f).task u = if u = t then f (s.task t) else s.task u := tget_tset _ _ _ _ _
@[simp] theorem modTask_task_same (t : Nat) (f : TaskSt → TaskSt) : (s.modTask t f).task t = f (s.task t) := tget_tset_same _ _ _ _
@[simp] theorem modTask_pending (t : Nat) (f : TaskSt → TaskSt) : (s.modTask t f).pending = s.pending := rfl
@[simp] theorem modTask_now (t : Nat) (f : TaskSt → TaskSt) : (s.modTask t f).now = s.now := rfl
@[simp] theorem modTask_opMs (t : Nat) (f : TaskSt → TaskSt) : (s.modTask t f).opMs = s.opMs := rfl
@[simp] theorem modTask_opNs (t : Nat) (f : TaskSt → TaskSt) : (s.modTask t f).opNs = s.opNs := rfl
@[simp] theorem modTask_free (t : Nat) (f : TaskSt → TaskSt) : (s.modTask t f).free = s.free := rfl
@[simp] theorem modTask_stamp (t : Nat) (f : TaskSt → TaskSt) : (s.modTask t f).stamp = s.stamp := rfl
@[simp] theorem modTask_clockNs (t : Nat) (f : TaskSt → TaskSt) : (s.modTask t f).clockNs = s.clockNs := rfl
@[simp] theorem modTask_variant (t : Nat) (f : TaskSt → TaskSt) : (s.modTask t f).variant = s.variant := rfl
@[simp] theorem modTask_sup (t : Nat) (f : TaskSt → TaskSt) : (s.modTask t f).sup = s.sup := rfl
@[simp] theorem modTask_host (t : Nat) (f : TaskSt → TaskSt) : (s.modTask t f).host = s.host := rfl
@[simp] theorem modTask_mb (t : Nat) (f : TaskSt → TaskSt) : (s.modTask t f).mb = s.mb := rfl
@[simp] theorem modTask_cfg (t : Nat) (f : TaskSt → TaskSt) : (s.modTask t f).cfg = s.cfg := rfl
@[simp] theorem modTask_run (t : Nat) (f : TaskSt → TaskSt) : (s.modTask t f).run = s.run := rfl
@[simp] theorem modTask_gen (t : Nat) (f : TaskSt → TaskSt) : (s.modTask t f).gen = s.gen := rfl
@[simp] theorem modTask_img (t : Nat) (f : TaskSt → TaskSt) : (s.modTask t f).img = s.img := rfl
@[simp] theorem modTask_regions (t : Nat) (f : TaskSt → TaskSt) : (s.modTask t f).regions = s.regions := rfl
@[simp] theorem modTask_timers (t : Nat) (f : TaskSt → TaskSt) : (s.modTask t f).timers = s.timers := rfl
@[simp] theorem modTask_engines (t : Nat) (f : TaskSt → TaskSt) : (s.modTask t f).engines = s.engines := rfl
@[simp] theorem modTask_shared (t : Nat) (f : TaskSt → TaskSt) : (s.modTask t f).shared = s.shared := rfl
@[simp] theorem modTask_rtc (t : Nat) (f : TaskSt → TaskSt) : (s.modTask t f).rtc = s.rtc := rfl
@[simp] theorem modTask_stor (t : Nat) (f : TaskSt → TaskSt) : (s.modTask t f).stor = s.stor := rfl
@[simp] theorem modTask_diary (t : Nat) (f : TaskSt → TaskSt) : (s.modTask t f).diary = s.diary := rfl
@[simp] theorem modTask_chans (t : Nat) (f : TaskSt → TaskSt) : (s.modTask t f).chans = s.chans := rfl
@[simp] theorem modTask_net (t : Nat) (f : TaskSt → TaskSt) : (s.modTask t f).net = s.net := rfl
@[simp] theorem modTask_es (t : Nat) (f : TaskSt → TaskSt) : (s.modTask t f).es = s.es := rfl
@[simp] theorem modTask_safe (t : Nat) (f : TaskSt → TaskSt) : (s.modTask t f).safe = s.safe := rfl
@[simp] theorem modTask_red (t : Nat) (f : TaskSt → TaskSt) : (s.modTask t f).red = s.red := rfl
@[simp] theorem modTask_upd (t : Nat) (f : TaskSt → TaskSt) : (s.modTask t f).upd = s.upd := rfl

/-- The unit written reads back; the others read as before. -/
theorem setRegion_region (t : Nat) (x : RegionSt) (u : Nat) : (s.setRegion t x).region u = if u = t then x else s.region u := tget_tset _ _ _ _ _
@[simp] theorem setRegion_region_same (t : Nat) (x : RegionSt) : (s.setRegion t x).region t = x := tget_tset_same _ _ _ _
theorem modRegion_region (t u : Nat) (f : RegionSt → RegionSt) : (s.modRegion t f).region u = if u = t then f (s.region t) else s.region u := tget_tset _ _ _ _ _
@[simp] theorem modRegion_region_same (t : Nat) (f : RegionSt → RegionSt) : (s.modRegion t f).region t = f (s.region t) := tget_tset_same _ _ _ _
@[simp] theorem modRegion_pending (t : Nat) (f : RegionSt → RegionSt) : (s.modRegion t f).pending = s.pending := rfl
@[simp] theorem modRegion_now (t : Nat) (f : RegionSt → RegionSt) : (s.modRegion t f).now = s.now := rfl
@[simp] theorem modRegion_opMs (t : Nat) (f : RegionSt → RegionSt) : (s.modRegion t f).opMs = s.opMs := rfl
@[simp] theorem modRegion_opNs (t : Nat) (f : RegionSt → RegionSt) : (s.modRegion t f).opNs = s.opNs := rfl
@[simp] theorem modRegion_free (t : Nat) (f : RegionSt → RegionSt) : (s.modRegion t f).free = s.free := rfl
@[simp] theorem modRegion_stamp (t : Nat) (f : RegionSt → RegionSt) : (s.modRegion t f).stamp = s.stamp := rfl
@[simp] theorem modRegion_clockNs (t : Nat) (f : RegionSt → RegionSt) : (s.modRegion t f).clockNs = s.clockNs := rfl
@[simp] theorem modRegion_variant (t : Nat) (f : RegionSt → RegionSt) : (s.modRegion t f).variant = s.variant := rfl
@[simp] theorem modRegion_sup (t : Nat) (f : RegionSt → RegionSt) : (s.modRegion t f).sup = s.sup := rfl
@[simp] theorem modRegion_host (t : Nat) (f : RegionSt → RegionSt) : (s.modRegion t f).host = s.host := rfl
@[simp] theorem modRegion_mb (t : Nat) (f : RegionSt → RegionSt) : (s.modRegion t f).mb = s.mb := rfl
@[simp] theorem modRegion_cfg (t : Nat) (f : RegionSt → RegionSt) : (s.modRegion t f).cfg = s.cfg := rfl
@[simp] theorem modRegion_run (t : Nat) (f : RegionSt → RegionSt) : (s.modRegion t f).run = s.run := rfl
@[simp] theorem modRegion_gen (t : Nat) (f : RegionSt → RegionSt) : (s.modRegion t f).gen = s.gen := rfl
@[simp] theorem modRegion_img (t : Nat) (f : RegionSt → RegionSt) : (s.modRegion t f).img = s.img := rfl
@[simp] theorem modRegion_tasks (t : Nat) (f : RegionSt → RegionSt) : (s.modRegion t f).tasks = s.tasks := rfl
@[simp] theorem modRegion_timers (t : Nat) (f : RegionSt → RegionSt) : (s.modRegion t f).timers = s.timers := rfl
@[simp] theorem modRegion_engines (t : Nat) (f : RegionSt → RegionSt) : (s.modRegion t f).engines = s.engines := rfl
@[simp] theorem modRegion_shared (t : Nat) (f : RegionSt → RegionSt) : (s.modRegion t f).shared = s.shared := rfl
@[simp] theorem modRegion_rtc (t : Nat) (f : RegionSt → RegionSt) : (s.modRegion t f).rtc = s.rtc := rfl
@[simp] theorem modRegion_stor (t : Nat) (f : RegionSt → RegionSt) : (s.modRegion t f).stor = s.stor := rfl
@[simp] theorem modRegion_diary (t : Nat) (f : RegionSt → RegionSt) : (s.modRegion t f).diary = s.diary := rfl
@[simp] theorem modRegion_chans (t : Nat) (f : RegionSt → RegionSt) : (s.modRegion t f).chans = s.chans := rfl
@[simp] theorem modRegion_net (t : Nat) (f : RegionSt → RegionSt) : (s.modRegion t f).net = s.net := rfl
@[simp] theorem modRegion_es (t : Nat) (f : RegionSt → RegionSt) : (s.modRegion t f).es = s.es := rfl
@[simp] theorem modRegion_safe (t : Nat) (f : RegionSt → RegionSt) : (s.modRegion t f).safe = s.safe := rfl
@[simp] theorem modRegion_red (t : Nat) (f : RegionSt → RegionSt) : (s.modRegion t f).red = s.red := rfl
@[simp] theorem modRegion_upd (t : Nat) (f : RegionSt → RegionSt) : (s.modRegion t f).upd = s.upd := rfl

/-- The unit written reads back; the others read as before. -/
theorem setTimer_timer (t : Nat) (x : TimerSt) (u : Nat) : (s.setTimer t x).timer u = if u = t then x else s.timer u := tget_tset _ _ _ _ _
@[simp] theorem setTimer_timer_same (t : Nat) (x : TimerSt) : (s.setTimer t x).timer t = x := tget_tset_same _ _ _ _

/-- The unit written reads back; the others read as before. -/
theorem setEngine_engine (t : Nat) (x : EngineSt) (u : Nat) : (s.setEngine t x).engine u = if u = t then x else s.engine u := tget_tset _ _ _ _ _
@[simp] theorem setEngine_engine_same (t : Nat) (x : EngineSt) : (s.setEngine t x).engine t = x := tget_tset_same _ _ _ _
theorem modEngine_engine (t u : Nat) (f : EngineSt → EngineSt) : (s.modEngine t f).engine u = if u = t then f (s.engine t) else s.engine u := tget_tset _ _ _ _ _
@[simp] theorem modEngine_engine_same (t : Nat) (f : EngineSt → EngineSt) : (s.modEngine t f).engine t = f (s.engine t) := tget_tset_same _ _ _ _
@[simp] theorem modEngine_pending (t : Nat) (f : EngineSt → EngineSt) : (s.modEngine t f).pending = s.pending := rfl
@[simp] theorem modEngine_now (t : Nat) (f : EngineSt → EngineSt) : (s.modEngine t f).now = s.now := rfl
@[simp] theorem modEngine_opMs (t : Nat) (f : EngineSt → EngineSt) : (s.modEngine t f).opMs = s.opMs := rfl
@[simp] theorem modEngine_opNs (t : Nat) (f : EngineSt → EngineSt) : (s.modEngine t f).opNs = s.opNs := rfl
@[simp] theorem modEngine_free (t : Nat) (f : EngineSt → EngineSt) : (s.modEngine t f).free = s.free := rfl
@[simp] theorem modEngine_stamp (t : Nat) (f : EngineSt → EngineSt) : (s.modEngine t f).stamp = s.stamp := rfl
@[simp] theorem modEngine_clockNs (t : Nat) (f : EngineSt → EngineSt) : (s.modEngine t f).clockNs = s.clockNs := rfl
@[simp] theorem modEngine_variant (t : Nat) (f : EngineSt → EngineSt) : (s.modEngine t f).variant = s.variant := rfl
@[simp] theorem modEngine_sup (t : Nat) (f : EngineSt → EngineSt) : (s.modEngine t f).sup = s.sup := rfl
@[simp] theorem modEngine_host (t : Nat) (f : EngineSt → EngineSt) : (s.modEngine t f).host = s.host := rfl
@[simp] theorem modEngine_mb (t : Nat) (f : EngineSt → EngineSt) : (s.modEngine t f).mb = s.mb := rfl
@[simp] theorem modEngine_cfg (t : Nat) (f : EngineSt → EngineSt) : (s.modEngine t f).cfg = s.cfg := rfl
@[simp] theorem modEngine_run (t : Nat) (f : EngineSt → EngineSt) : (s.modEngine t f).run = s.run := rfl
@[simp] theorem modEngine_gen (t : Nat) (f : EngineSt → EngineSt) : (s.modEngine t f).gen = s.gen := rfl
@[simp] theorem modEngine_img (t : Nat) (f : EngineSt → EngineSt) : (s.modEngine t f).img = s.img := rfl
@[simp] theorem modEngine_tasks (t : Nat) (f : EngineSt → EngineSt) : (s.modEngine t f).tasks = s.tasks := rfl
@[simp] theorem modEngine_regions (t : Nat) (f : EngineSt → EngineSt) : (s.modEngine t f).regions = s.regions := rfl
@[simp] theorem modEngine_timers (t : Nat) (f : EngineSt → EngineSt) : (s.modEngine t f).timers = s.timers := rfl
@[simp] theorem modEngine_shared (t : Nat) (f : EngineSt → EngineSt) : (s.modEngine t f).shared = s.shared := rfl
@[simp] theorem modEngine_rtc (t : Nat) (f : EngineSt → EngineSt) : (s.modEngine t f).rtc = s.rtc := rfl
@[simp] theorem modEngine_stor (t : Nat) (f : EngineSt → EngineSt) : (s.modEngine t f).stor = s.stor := rfl
@[simp] theorem modEngine_diary (t : Nat) (f : EngineSt → EngineSt) : (s.modEngine t f).diary = s.diary := rfl
@[simp] theorem modEngine_chans (t : Nat) (f : EngineSt → EngineSt) : (s.modEngine t f).chans = s.chans := rfl
@[simp] theorem modEngine_net (t : Nat) (f : EngineSt → EngineSt) : (s.modEngine t f).net = s.net := rfl
@[simp] theorem modEngine_es (t : Nat) (f : EngineSt → EngineSt) : (s.modEngine t f).es = s.es := rfl
@[simp] theorem modEngine_safe (t : Nat) (f : EngineSt → EngineSt) : (s.modEngine t f).safe = s.safe := rfl
@[simp] theorem modEngine_red (t : Nat) (f : EngineSt → EngineSt) : (s.modEngine t f).red = s.red := rfl
@[simp] theorem modEngine_upd (t : Nat) (f : EngineSt → EngineSt) : (s.modEngine t f).upd = s.upd := rfl

/-- The unit written reads back; the others read as before. -/
theorem setChan_chan (t : Nat) (x : ChanSt) (u : Nat) : (s.setChan t x).chan u = if u = t then x else s.chan u := tget_tset _ _ _ _ _
@[simp] theorem setChan_chan_same (t : Nat) (x : ChanSt) : (s.setChan t x).chan t = x := tget_tset_same _ _ _ _
theorem modChan_chan (t u : Nat) (f : ChanSt → ChanSt) : (s.modChan t f).chan u = if u = t then f (s.chan t) else s.chan u := tget_tset _ _ _ _ _
@[simp] theorem modChan_chan_same (t : Nat) (f : ChanSt → ChanSt) : (s.modChan t f).chan t = f (s.chan t) := tget_tset_same _ _ _ _
@[simp] theorem modChan_pending (t : Nat) (f : ChanSt → ChanSt) : (s.modChan t f).pending = s.pending := rfl
@[simp] theorem modChan_now (t : Nat) (f : ChanSt → ChanSt) : (s.modChan t f).now = s.now := rfl
@[simp] theorem modChan_opMs (t : Nat) (f : ChanSt → ChanSt) : (s.modChan t f).opMs = s.opMs := rfl
@[simp] theorem modChan_opNs (t : Nat) (f : ChanSt → ChanSt) : (s.modChan t f).opNs = s.opNs := rfl
@[simp] theorem modChan_free (t : Nat) (f : ChanSt → ChanSt) : (s.modChan t f).free = s.free := rfl
@[simp] theorem modChan_stamp (t : Nat) (f : ChanSt → ChanSt) : (s.modChan t f).stamp = s.stamp := rfl
@[simp] theorem modChan_clockNs (t : Nat) (f : ChanSt → ChanSt) : (s.modChan t f).clockNs = s.clockNs := rfl
@[simp] theorem modChan_variant (t : Nat) (f : ChanSt → ChanSt) : (s.modChan t f).variant = s.variant := rfl
@[simp] theorem modChan_sup (t : Nat) (f : ChanSt → ChanSt) : (s.modChan t f).sup = s.sup := rfl
@[simp] theorem modChan_host (t : Nat) (f : ChanSt → ChanSt) : (s.modChan t f).host = s.host := rfl
@[simp] theorem modChan_mb (t : Nat) (f : ChanSt → ChanSt) : (s.modChan t f).mb = s.mb := rfl
@[simp] theorem modChan_cfg (t : Nat) (f : ChanSt → ChanSt) : (s.modChan t f).cfg = s.cfg := rfl
@[simp] theorem modChan_run (t : Nat) (f : ChanSt → ChanSt) : (s.modChan t f).run = s.run := rfl
@[simp] theorem modChan_gen (t : Nat) (f : ChanSt → ChanSt) : (s.modChan t f).gen = s.gen := rfl
@[simp] theorem modChan_img (t : Nat) (f : ChanSt → ChanSt) : (s.modChan t f).img = s.img := rfl
@[simp] theorem modChan_tasks (t : Nat) (f : ChanSt → ChanSt) : (s.modChan t f).tasks = s.tasks := rfl
@[simp] theorem modChan_regions (t : Nat) (f : ChanSt → ChanSt) : (s.modChan t f).regions = s.regions := rfl
@[simp] theorem modChan_timers (t : Nat) (f : ChanSt → ChanSt) : (s.modChan t f).timers = s.timers := rfl
@[simp] theorem modChan_engines (t : Nat) (f : ChanSt → ChanSt) : (s.modChan t f).engines = s.engines := rfl
@[simp] theorem modChan_shared (t : Nat) (f : ChanSt → ChanSt) : (s.modChan t f).shared = s.shared := rfl
@[simp] theorem modChan_rtc (t : Nat) (f : ChanSt → ChanSt) : (s.modChan t f).rtc = s.rtc := rfl
@[simp] theorem modChan_stor (t : Nat) (f : ChanSt → ChanSt) : (s.modChan t f).stor = s.stor := rfl
@[simp] theorem modChan_diary (t : Nat) (f : ChanSt → ChanSt) : (s.modChan t f).diary = s.diary := rfl
@[simp] theorem modChan_net (t : Nat) (f : ChanSt → ChanSt) : (s.modChan t f).net = s.net := rfl
@[simp] theorem modChan_es (t : Nat) (f : ChanSt → ChanSt) : (s.modChan t f).es = s.es := rfl
@[simp] theorem modChan_safe (t : Nat) (f : ChanSt → ChanSt) : (s.modChan t f).safe = s.safe := rfl
@[simp] theorem modChan_red (t : Nat) (f : ChanSt → ChanSt) : (s.modChan t f).red = s.red := rfl
@[simp] theorem modChan_upd (t : Nat) (f : ChanSt → ChanSt) : (s.modChan t f).upd = s.upd := rfl

/-- An image word written reads back; the others read as before. -/
theorem setIw_iwGet (n m : Nat) (w : ImgWord) : (s.setIw n w).iwGet m = if m = n then w else s.iwGet m := tget_tset _ _ _ _ _
theorem setQw_qwGet (n m : Nat) (w : ImgWord) : (s.setQw n w).qwGet m = if m = n then w else s.qwGet m := tget_tset _ _ _ _ _

end Sys2Proof.Machine
end

