-- ==== Sys2Proof/Laws/Signals.lean ====
section
/-! SUPPORT. What the shared operations that report something can do: an interrupt, a Diary record, CFG_LOAD, the pair's link.
A meaning that ends in one of them leaves everything else of the state before it. -/

namespace Sys2Proof.Machine

/-! ### Signals -/

theorem signalsOnly_refl (s : State) : SignalsOnly s s := rfl

theorem signalsOnly_trans {s t u : State} (h : SignalsOnly s t) (k : SignalsOnly t u) : SignalsOnly s u := by
  unfold SignalsOnly at *
  rw [← h]
  rw [← k]

/-- A unit that no signal touches is the same on both sides. -/
theorem signalsOnly_unit {α : Type} {s t : State} (h : SignalsOnly s t) (f : State → α)
    (hf : ∀ (u : State) (a : HostSt) (b : EsSt) (c : DiarySt), f { u with host := a, es := b, diary := c } = f u) : f t = f s := by
  have := congrArg f h
  rwa [hf] at this

theorem signalsOnly_shared {s t : State} (h : SignalsOnly s t) : t.shared = s.shared := signalsOnly_unit h (·.shared) (fun _ _ _ _ => rfl)
theorem signalsOnly_safe {s t : State} (h : SignalsOnly s t) : t.safe = s.safe := signalsOnly_unit h (·.safe) (fun _ _ _ _ => rfl)
theorem signalsOnly_engines {s t : State} (h : SignalsOnly s t) : t.engines = s.engines := signalsOnly_unit h (·.engines) (fun _ _ _ _ => rfl)
theorem signalsOnly_rtc {s t : State} (h : SignalsOnly s t) : t.rtc = s.rtc := signalsOnly_unit h (·.rtc) (fun _ _ _ _ => rfl)
theorem signalsOnly_opNs {s t : State} (h : SignalsOnly s t) : t.opNs = s.opNs := signalsOnly_unit h (·.opNs) (fun _ _ _ _ => rfl)
theorem signalsOnly_tasks {s t : State} (h : SignalsOnly s t) : t.tasks = s.tasks := signalsOnly_unit h (·.tasks) (fun _ _ _ _ => rfl)
theorem signalsOnly_pending {s t : State} (h : SignalsOnly s t) : t.pending = s.pending := signalsOnly_unit h (·.pending) (fun _ _ _ _ => rfl)
theorem signalsOnly_variant {s t : State} (h : SignalsOnly s t) : t.variant = s.variant := signalsOnly_unit h (·.variant) (fun _ _ _ _ => rfl)
theorem signalsOnly_xfer {s t : State} (h : SignalsOnly s t) : t.host.xfer = s.host.xfer := congrArg (·.host.xfer) h
theorem signalsOnly_msixTable {s t : State} (h : SignalsOnly s t) : t.host.msixTable = s.host.msixTable := congrArg (·.host.msixTable) h

/-- Signals leave both of the module's invariants. -/
theorem signalsOnly_memoriesWf {s t : State} (h : SignalsOnly s t) : memoriesWf t ↔ memoriesWf s := by
  simp only [memoriesWf, State.engine, signalsOnly_shared h, signalsOnly_safe h, signalsOnly_engines h, signalsOnly_xfer h,
    signalsOnly_msixTable h]
theorem signalsOnly_clocksWf {s t : State} (h : SignalsOnly s t) : clocksWf t ↔ clocksWf s := by
  simp only [clocksWf, signalsOnly_rtc h, signalsOnly_opNs h]

/-! ### Interrupts and the Diary -/

theorem noteSession_bits (b c : Byte) (x : SesSt) : { noteSession b x with bits := c } = { x with bits := c } := by
  unfold noteSession; split <;> rfl

/-- An event sets its bit of HOST_IRQ and may send its vector; it is a signal. -/
theorem setIrq_signals (n : Nat) (s : State) : SignalsOnly s (setIrq n s) := by
  simp only [SignalsOnly, setIrq, noteSession_bits]
theorem setIrq_irq (n : Nat) (s : State) : (setIrq n s).host.irq = s.host.irq ||| BitVec.ofNat 8 (2 ^ n) := rfl
theorem setIrq_own (n : Nat) (s : State) (h : n < 8) : (setIrq n s).host.irq.getLsbD n = true := by
  rw [setIrq_irq, BitVec.getLsbD_or, BitVec.getLsbD_ofNat, Nat.testBit_two_pow_self]
  simp [h]
/-- A vector counts as sent only where its bit is enabled. -/
theorem setIrq_msixSent (n : Nat) (s : State) : (setIrq n s).host.msixSent
    = if s.host.irqEn.getLsbD n = true ∧ s.host.msixSent.getLsbD n = false then s.host.msixSent ||| BitVec.ofNat 8 (2 ^ n)
      else s.host.msixSent := by
  simp only [setIrq]
  cases s.host.irqEn.getLsbD n <;> cases s.host.msixSent.getLsbD n <;> rfl

theorem diaryDrop_signals (s : State) : SignalsOnly s (diaryDrop s) := rfl
/-- A record raised is a signal: it waits at the end of the queue, or is counted as dropped while the module is in reset with 256
records waiting. -/
theorem diaryRaise_signals (code inst : Half) (d : List Byte) (s : State) : SignalsOnly s (diaryRaise code inst d s) := by
  unfold diaryRaise; split <;> rfl
theorem diaryRaise_raises (code inst : Half) (d : List Byte) (s : State) (h : s.up = true) :
    (diaryRaise code inst d s).diary.raised = s.diary.raised ++ [⟨code, inst, padTo 24 d, false⟩] := by
  have hp : s.sup.phase ≠ .reset := by simpa [State.up] using h
  simp [diaryRaise, hp]
theorem diaryRaise_raisesOne (code inst : Half) (d : List Byte) (s : State) (h : s.up = true) : RaisesOne s (diaryRaise code inst d s) code :=
  ⟨_, diaryRaise_raises code inst d s h, rfl⟩

/-- CFG_LOAD takes its values; a change is also a signal. -/
theorem setCfgLoad_signals (sec stage status : Byte) (d : Word) (s : State) :
    SignalsOnly { s with cfg := { s.cfg with section_ := sec, stage := stage, status := status, detail := d } }
      (setCfgLoad sec stage status d s) := by
  simp only [setCfgLoad]
  split
  · exact setIrq_signals _ _
  · rfl

/-! ### The pair's link -/

/-- RED_STATUS changes; a change is also a signal. -/
theorem setRed_signals (st : RedPhase) (token oe : Bool) (s : State) :
    SignalsOnly { s with red := { s.red with st := st, token := token, oe := oe } } (setRed st token oe s) := by
  simp only [setRed]
  split
  · exact setIrq_signals _ _
  · rfl

/-- Records, frames and lists for the partner change the redundancy controller alone. -/
theorem trelexClose_frame (s : State) : { trelexClose s with red := s.red } = s := by
  unfold trelexClose; split <;> rfl
theorem sendRecord_frame (kind : Byte) (body : List Byte) (s : State) : { sendRecord kind body s with red := s.red } = s := by
  unfold sendRecord
  split
  · rfl
  · simp only
    split
    · have h := trelexClose_frame s
      generalize trelexClose s = t at h ⊢
      rw [← h]
    · rfl
theorem emit_frame (kind : Byte) (body : List Byte) (s : State) : { emit kind body s with red := s.red } = s := by
  unfold emit
  split
  · exact sendRecord_frame kind body s
  · rfl
theorem control_frame (ty : Byte) (m : List Byte) (s : State) : { control ty m s with red := s.red } = s := sendRecord_frame _ _ _
theorem emitMark_frame (t : Nat) (kind : Byte) (act : Word) (s : State) : { emitMark t kind act s with red := s.red } = s := emit_frame _ _ _
theorem emitRefresh_frame (w st : Nat) (s : State) : { emitRefresh w st s with red := s.red } = s := emit_frame _ _ _
theorem addDelta_frame (es : List DeltaEntry) (s : State) : { addDelta es s with red := s.red } = s := by
  unfold addDelta; split <;> rfl
theorem emitDelta_frame (t : Nat) (act : Word) (es : List DeltaEntry) (s : State) : { emitDelta t act es s with red := s.red } = s := by
  unfold emitDelta
  split
  · rfl
  · exact emit_frame _ _ _
theorem bumpRead_frame (t k l n : Nat) (s : State) : { bumpRead t k l n s with red := s.red } = s := rfl
theorem resetReads_frame (t : Nat) (s : State) : { resetReads t s with red := s.red } = s := rfl
theorem dropReads_frame (t : Nat) (act : Word) (s : State) : { dropReads t act s with red := s.red } = s := rfl

/-- With the link up the record stands at the end of the frame being filled. -/
theorem sendRecord_sends (kind : Byte) (body : List Byte) (s : State) (h : s.red.linkUp = true) : Sends (sendRecord kind body s) kind body := by
  unfold sendRecord Sends
  simp only [h, Bool.not_true, Bool.false_eq_true, if_false]
  exact ⟨_, rfl⟩
theorem control_sends (ty : Byte) (m : List Byte) (s : State) (h : s.red.linkUp = true) : Sends (control ty m s) 8 ([ty, 0, 0, 0] ++ m) :=
  sendRecord_sends _ _ _ h
/-- A module whose partner receives no stream emits nothing. -/
theorem emit_quiet (kind : Byte) (body : List Byte) (s : State) (h : streaming s = false) : emit kind body s = s := by
  simp [emit, h]
theorem single_streams_nothing (s : State) (h : s.red.st = .single) : streaming s = false ∧ standby s = false := by
  simp [streaming, standby, h]

/-! ### Words, queues and tasks -/

/-- The events and the arrivals that a write brings are all that noting it changes. -/
theorem noteChange_frame (n : Nat) (a b : ImgWord) (s : State) :
    { noteChange n a b s with img := { (noteChange n a b s).img with events := s.img.events } } = s := by
  unfold noteChange; simp only; split <;> rfl
theorem noteTriggers_frame (ns : List Nat) (s : State) :
    { noteTriggers ns s with img := { (noteTriggers ns s).img with arrivals := s.img.arrivals } } = s := by
  unfold noteTriggers; simp only; split <;> rfl

/-- A word written into the live input image: that word, the events that it brings and the stream. -/
theorem putIw_reads (n k : Nat) (w : ImgWord) (s : State) : (putIw n w s).iwGet k = if k = n then w else s.iwGet k := by
  have h := congrArg (·.img.iw) (emit_frame 1 (entryBytes n w) (noteChange n (s.iwGet n) w (s.setIw n w)))
  have h' := congrArg (·.img.iw) (noteChange_frame n (s.iwGet n) w (s.setIw n w))
  simp only at h h'
  rw [h'] at h
  rw [putIw, State.iwGet, h]
  simp only [State.iwGet, State.setIw, tget_tset]
theorem setQueue_reads (i k : Nat) (q : List QEntry) (s : State) : queueOf (setQueue i q s) k = if k = i then q else queueOf s k := by
  simp [queueOf, setQueue, tget_tset]
theorem setQueue_frame (i : Nat) (q : List QEntry) (s : State) :
    { setQueue i q s with img := { (setQueue i q s).img with queues := s.img.queues } } = s := rfl

/-- An entry taken changes its task alone. -/
theorem takeEntry_frame (wave : Bool) (q : QEntry) (s : State) : { takeEntry wave q s with tasks := s.tasks } = s := by
  cases q with
  | bb t n d m => simp only [takeEntry]; split <;> rfl
  | qw t n d tag =>
    simp only [takeEntry]
    split
    · rfl
    · split <;> rfl
  | marker t l => rfl
theorem takeAll_frame (wave : Bool) (qs : List QEntry) (s : State) : { takeAll wave qs s with tasks := s.tasks } = s := by
  induction qs generalizing s with
  | nil => rfl
  | cons q r ih =>
    have h1 := takeEntry_frame wave q s
    have h2 := ih (takeEntry wave q s)
    simp only [takeAll, List.foldl_cons] at h2 ⊢
    generalize List.foldl _ _ r = u at h2 ⊢
    generalize takeEntry wave q s = v at h1 h2
    rw [← h1, ← h2]

/-- TASK_FAULT flags: the flag is set, the record is a signal, nothing else changes. -/
theorem fbFlagIf_fault (b : Bool) (e : EngId) (t : TaskId) (bit : Nat) (s : State) :
    { fbFlagIf b e t bit s with tasks := s.tasks, diary := s.diary } = s := by
  unfold fbFlagIf fbFlag
  split
  · split
    · rfl
    · simp only [State.modTask, State.setTask, diaryRaise]
      split <;> rfl
  · rfl

end Sys2Proof.Machine
end

