-- ==== Sys2Proof/Laws/Answers.lean ====
section
/-! SUPPORT. How a mailbox command and an engineering request are answered: what taking one does, what its answer does, what is
left as the command's own effect. -/

namespace Sys2Proof.Machine

variable {s : State}

/-! ### The host mailbox (R392, R393) -/

/-- The state on which an accepted command runs: numbered, latched, a valid SPI access noted. -/
def mbTaken (code : Nat) (p : Port) (tag : Half) (s : State) : State :=
  let u := portUsed p s
  { u with mb := { u.mb with issued := u.mb.issued + 1, busy := some { code := BitVec.ofNat 16 code, tag := tag, args := mbArgs s } } }

/-- What the command reads: the arguments, XFER_BUF and the assembly buffer as they stand. -/
def mbInput (p : Port) (mem : List Byte) (s : State) : CmdIn := ⟨.host, p == .spi, mbArgs s, readBytes s.host.xfer 0 4096, s.mb.asm, mem⟩

theorem portUp_of (p : Port) (hu : s.up = true) (hp : s.pcieReach = true) : portUp p s = true := by simp [portUp, hu, hp]
theorem portUsed_up (p : Port) (s : State) : (portUsed p s).up = s.up := by unfold portUsed; split <;> rfl
theorem portUsed_mb (p : Port) (s : State) : (portUsed p s).mb = s.mb := by unfold portUsed; split <;> rfl
theorem portUsed_mbArgs (p : Port) (s : State) : mbArgs (portUsed p s) = mbArgs s := by unfold portUsed; split <;> rfl
theorem portUsed_xfer (p : Port) (s : State) : (portUsed p s).host.xfer = s.host.xfer := by unfold portUsed; split <;> rfl
theorem portUsed_frame (p : Port) (s : State) : { portUsed p s with host := { (portUsed p s).host with spiLow := s.host.spiLow } } = s := by
  unfold portUsed; split <;> rfl

/-- On a free mailbox the command runs on the state that has taken it, and its answer is posted. -/
theorem mbCommand_free (code : Nat) (f : Option (CmdIn → State → CmdAns)) (p : Port) (tag : Half) (mem : List Byte) (hu : portUp p s = true)
    (hb : s.mb.busy = none) :
    mbCommand code f p tag mem s = mbAnswer (runCommand code f (mbInput p mem s) (mbTaken code p tag s)) := by
  simp only [mbCommand, mbIssue, hu, portUsed_mb, hb, portUsed_mbArgs, portUsed_xfer, mbInput, mbTaken]
  rfl
/-- A command at a mailbox in use is discarded with LOST. -/
theorem mbCommand_busy (code : Nat) (f : Option (CmdIn → State → CmdAns)) (p : Port) (tag : Half) (mem : List Byte) (hu : portUp p s = true)
    (hb : s.mb.busy ≠ none) : mbCommand code f p tag mem s = { portUsed p s with mb := { s.mb with lost := true } } := by
  obtain ⟨b, hb⟩ := Option.ne_none_iff_exists'.mp hb
  simp only [mbCommand, mbIssue, hu, portUsed_mb, hb]
  rfl
/-- A port that does not answer takes no command. -/
theorem mbCommand_reset (code : Nat) (f : Option (CmdIn → State → CmdAns)) (p : Port) (tag : Half) (mem : List Byte) (hu : portUp p s = false) :
    mbCommand code f p tag mem s = s := by
  simp [mbCommand, hu]

/-- Posting ends BUSY, fills the result registers and sets MB_DONE; the rest of the state is as the command left it. -/
theorem mbPost_posts (r : CmdRes) (b : CmdBusy) (h : s.mb.busy = some b) :
    let t := mbPost r s
    t.mb.busy = none ∧ t.mb.issued = s.mb.issued ∧ t.mb.rseq = s.mb.issued ∧ t.mb.rstat = r.status
      ∧ t.mb.rtag = atBit 16 b.tag ||| atBit 0 b.code ∧ t.mb.rval = (r.rv ++ List.replicate 8 0).take 8 ∧ t.mb.rdata = padTo 256 r.data
      ∧ t.host.irq.getLsbD 0 = true := by
  simp only [mbPost, h]
  exact ⟨rfl, rfl, rfl, rfl, rfl, rfl, rfl, setIrq_own 0 _ (by decide)⟩
theorem mbPost_frame (r : CmdRes) (s : State) : SignalsOnly s { mbPost r s with mb := s.mb } := by
  unfold mbPost
  split
  · rfl
  · simp only [SignalsOnly, setIrq, noteSession_bits]
theorem mbAnswer_done (r : CmdRes) (t : State) : mbAnswer (some r, t) = mbPost r t := rfl
theorem mbAnswer_waits (t : State) : mbAnswer (none, t) = t := rfl

/-! ### Engineering requests (R235, R236) -/

theorem sesOf_setSes (i j : SesId) (x : SesSt) (s : State) : sesOf (setSes i x s) j = if j = i then x else sesOf s j := by
  unfold sesOf setSes
  by_cases hi : i = 0 <;> by_cases hj : j = 0
  · subst hi; subst hj; simp
  · subst hi; simp [hj]
  · subst hj; simp [hi, Ne.symm hi]
  · have h1 : i.val ≠ 0 := fun h => hi (Fin.ext h)
    have h2 : j.val ≠ 0 := fun h => hj (Fin.ext h)
    have : j = i := Fin.ext (by have := i.isLt; have := j.isLt; omega)
    subst this; simp [hi]
theorem sesOf_modSes (i j : SesId) (f : SesSt → SesSt) (s : State) : sesOf (modSes i f s) j = if j = i then f (sesOf s i) else sesOf s j :=
  sesOf_setSes _ _ _ _
/-- A change of a session leaves everything but the engineering service. -/
theorem setSes_frame (i : SesId) (x : SesSt) (s : State) : { setSes i x s with es := s.es } = s := by unfold setSes; split <;> rfl
theorem modSes_frame (i : SesId) (f : SesSt → SesSt) (s : State) : { modSes i f s with es := s.es } = s := setSes_frame _ _ _

/-- The request at the head of the queue is answered: its response, one message more, the rest of the queue. -/
theorem esRespond_answers (i : SesId) (status : Nat) (body : List Byte) (op : Half) (r : EsReq) (rest : List (Half × EsReq))
    (h : (sesOf s i).queue = (op, r) :: rest) :
    let t := esRespond i status body s
    (sesOf t i).resp = esMessage op.toNat 1 r.reqId status body ∧ (sesOf t i).sent = (sesOf s i).sent + 1 ∧ (sesOf t i).queue = rest
      ∧ (∀ j, j ≠ i → sesOf t j = sesOf s j) ∧ { t with es := s.es } = s := by
  simp only [esRespond, h, esSend]
  refine ⟨by simp [sesOf_modSes], by simp [sesOf_modSes], by simp [sesOf_modSes], fun j hj => by simp [sesOf_modSes, hj], ?_⟩
  by_cases hi : i = 0 <;> simp only [modSes, setSes, hi, if_true, if_false]
theorem modSes_modSes (i : SesId) (f g : SesSt → SesSt) (s : State) : modSes i f (modSes i g s) = modSes i (fun x => f (g x)) s := by
  unfold modSes
  rw [sesOf_setSes, if_pos rfl]
  unfold setSes
  split <;> rfl
/-- The module reads a request at once when nothing waits before it. -/
theorem esRead_one (op : Half) (r : EsReq) (hq : (sesOf s r.ses).queue = []) (hs : (sesOf s r.ses).stream = []) :
    esReadAll r.ses (modSes r.ses (fun x => { x with lastNs := s.now, stream := x.stream ++ [some (op, r)] }) s)
      = modSes r.ses (fun x => { x with lastNs := s.now, queue := [(op, r)] }) s := by
  have h : (sesOf (modSes r.ses (fun x => { x with lastNs := s.now, stream := x.stream ++ [some (op, r)] }) s) r.ses) =
      { sesOf s r.ses with lastNs := s.now, stream := [some (op, r)] } := by simp [sesOf_modSes, hs]
  simp only [esReadAll, h, List.length_cons, List.length_nil, esRead, hq, modSes_modSes]
  simp [modSes, hq, hs]
/-- A request before which nothing waits, and which is answered, is served at once. -/
theorem esRequest_answered (op : Half) (r : EsReq) (status : Nat) (body : List Byte) (t : State) (hu : s.up = true)
    (ho : (sesOf s r.ses).opened = true) (hq : (sesOf s r.ses).queue = []) (hs : (sesOf s r.ses).stream = [])
    (hw : esWaiting (modSes r.ses (fun x => { x with lastNs := s.now, queue := [(op, r)] }) s) r.ses = false)
    (ha : esRun op.toNat r (modSes r.ses (fun x => { x with lastNs := s.now, queue := [(op, r)] }) s) = (some (status, body), t))
    (ht : (sesOf t r.ses).queue = [(op, r)]) (hts : (sesOf t r.ses).stream = []) :
    esRequest op r s = .next (esRespond r.ses status body t) := by
  have h1 := esRead_one op r hq hs
  have h3 : esReadAll r.ses (esRespond r.ses status body t) = esRespond r.ses status body t := by
    have : (sesOf (esRespond r.ses status body t) r.ses).stream = [] := by
      simp [esRespond, ht, esSend, sesOf_modSes, hts]
    simp [esReadAll, this, esRead]
  have hm : (sesOf (modSes r.ses (fun x => { x with lastNs := s.now, queue := [(op, r)] }) s) r.ses).queue = [(op, r)] := by simp [sesOf_modSes]
  have hn : (sesOf (modSes r.ses (fun x => { x with lastNs := s.now, queue := [(op, r)] }) s) r.ses).stream = [] := by simp [sesOf_modSes, hs]
  simp only [esRequest, hu, ho, esServeAll, h1, hm, hn, List.length_cons, List.length_nil, esServe, hw, ha, h3]
  simp

end Sys2Proof.Machine
end

