-- ==== Sys2Proof/Laws/Fb.lean ====
section
/-! SUPPORT. What the operations shared by the FB instructions do: register and PC writes, and an instruction that issues. -/

namespace Sys2Proof.Machine

theorem fbStep_issues {s : State} {e : EngId} {tk : TaskId} {l : Nat} (h : Issues s e tk l) (k : TaskId → State → State) :
    fbStep e k s = .next (k tk s) := by
  simp [fbStep, h.1, h.2]

theorem fbMain_issues {s : State} {e : EngId} {tk : TaskId} {l : Nat} (h : Issues s e tk l) (he : e.val ≠ 24)
    (k : TaskId → State → State) : fbMain e k s = .next (k tk s) := by
  simp [fbMain, fbStep_issues h, safeEng, he]

theorem fbMain_safety {s : State} {e : EngId} {tk : TaskId} {l : Nat} (h : Issues s e tk l) (he : e.val = 24)
    (k : TaskId → State → State) : fbMain e k s = .next (fbStop e tk fcIllegal (instrWord s e) 0 s) := by
  simp [fbMain, fbStep_issues h, safeEng, he]

/-- A register write followed by the advance of PC, on any state that agrees with `s` on the engines. -/
theorem writes_pcNext_wSet {s u : State} (e : EngId) (rd : Reg) (v : Dword) (h : u.engines = s.engines) :
    Writes s (pcNext e (wSet e rd v u)) e rd v := by
  have hu : ∀ f, u.engine f = s.engine f := fun f => by simp [State.engine, h]
  by_cases h0 : rd = 0
  · refine ⟨by simp [h0, wGet], fun r _ => ?_, ?_, fun f hf => ?_, ?_⟩
    · simp [wSet, h0, pcNext, setPc, wGet, hu]
    · simp [wSet, h0, pcNext, setPc, pcOf, hu]
    · simp [wSet, h0, pcNext, setPc, modEngine_engine, hf, hu]
    · simp [wSet, h0, pcNext, setPc, hu]
  · refine ⟨?_, fun r hr => ?_, ?_, fun f hf => ?_, ?_⟩
    · simp [wSet, h0, pcNext, setPc, wGet]
    · have hr' : r.val ≠ rd.val := fun hh => hr (Fin.ext hh)
      simp [wSet, h0, pcNext, setPc, wGet, tget_tset_other, hr', hu]
    · simp [wSet, h0, pcNext, setPc, pcOf, hu]
    · simp [wSet, h0, pcNext, setPc, modEngine_engine, hf, hu]
    · simp [wSet, h0, pcNext, setPc, hu]

theorem pcNext_wSet_engines (e : EngId) (rd : Reg) (v : Dword) (s : State) (x : Tab EngineSt) :
    { pcNext e (wSet e rd v s) with engines := x } = { s with engines := x } := by
  by_cases h0 : rd = 0 <;> simp [wSet, h0, pcNext, setPc, State.modEngine, State.setEngine]

/-- An instruction that only writes a register gives its value. -/
theorem gives_of_fbWrite {s : State} {e : EngId} {tk : TaskId} {l : Nat} {i : Instr} {rd : Reg} {f : State → Dword} {v : Dword}
    (h : Issues s e tk l) (hx : exec i s = fbWrite e rd f s) (hv : f s = v) : Gives s i e rd v := by
  refine ⟨_, by rw [hx, fbWrite, fbStep_issues h], ?_, ?_⟩
  · rw [← hv]; exact writes_pcNext_wSet e rd _ rfl
  · rw [pcNext_wSet_engines]

end Sys2Proof.Machine
end

