-- ==== Sys2Proof/Laws/Keeps.lean ====
section
/-! SUPPORT. What every operation of the module keeps, once for each shared operation: the queue's rest, the variant, the canonical form of
the byte memories, the range of the clock's fields. -/

namespace Sys2Proof.Machine

/-- `t` keeps what every command keeps of `s`. -/
def Keeps (s t : State) : Prop :=
  t.pending = s.pending ∧ t.variant = s.variant ∧ (memoriesWf s → memoriesWf t) ∧ (clocksWf s → clocksWf t)

theorem keeps_refl (s : State) : Keeps s s := ⟨rfl, rfl, id, id⟩
theorem keeps_trans {s t u : State} (h : Keeps s t) (k : Keeps t u) : Keeps s u :=
  ⟨k.1.trans h.1, k.2.1.trans h.2.1, fun x => k.2.2.1 (h.2.2.1 x), fun x => k.2.2.2 (h.2.2.2 x)⟩
theorem keeps_ite {c : Prop} [Decidable c] {s t u : State} (h : Keeps s t) (k : Keeps s u) : Keeps s (if c then t else u) := by
  split
  · exact h
  · exact k
theorem keeps_foldl {α : Type} (f : State → α → State) (hf : ∀ s a, Keeps s (f s a)) (l : List α) (s : State) : Keeps s (l.foldl f s) := by
  induction l generalizing s with
  | nil => exact keeps_refl s
  | cons a r ih => exact keeps_trans (hf s a) (ih (f s a))

/-- A change of units that hold neither a byte memory nor a clock field. -/
theorem keeps_units {s t : State} (hp : t.pending = s.pending) (hv : t.variant = s.variant) (hs : t.shared = s.shared)
    (hi : t.safe.safeIn = s.safe.safeIn) (ho : t.safe.safeOut = s.safe.safeOut) (hx : t.host.xfer = s.host.xfer)
    (hm : t.host.msixTable = s.host.msixTable) (he : t.engines = s.engines) (hr : t.rtc = s.rtc) (hn : t.opNs = s.opNs) : Keeps s t :=
  ⟨hp, hv, fun h => by simpa only [memoriesWf, State.engine, hs, hi, ho, hx, hm, he] using h,
    fun h => by simpa only [clocksWf, hr, hn] using h⟩

theorem keeps_signals {s t : State} (h : SignalsOnly s t) : Keeps s t :=
  keeps_units (signalsOnly_pending h) (signalsOnly_variant h) (signalsOnly_shared h) (congrArg (·.safeIn) (signalsOnly_safe h))
    (congrArg (·.safeOut) (signalsOnly_safe h)) (signalsOnly_xfer h) (signalsOnly_msixTable h) (signalsOnly_engines h) (signalsOnly_rtc h)
    (signalsOnly_opNs h)
/-- A change of the redundancy controller alone, and of the engineering service alone. -/
theorem keeps_red {s t : State} (h : { t with red := s.red } = s) : Keeps s t := by
  have f {α : Type} (g : State → α) (hg : ∀ (u : State) (r : RedSt), g { u with red := r } = g u) : g t = g s := by
    have := congrArg g h; rwa [hg] at this
  exact keeps_units (f (·.pending) fun _ _ => rfl) (f (·.variant) fun _ _ => rfl) (f (·.shared) fun _ _ => rfl)
    (f (·.safe.safeIn) fun _ _ => rfl) (f (·.safe.safeOut) fun _ _ => rfl) (f (·.host.xfer) fun _ _ => rfl)
    (f (·.host.msixTable) fun _ _ => rfl) (f (·.engines) fun _ _ => rfl) (f (·.rtc) fun _ _ => rfl) (f (·.opNs) fun _ _ => rfl)
theorem keeps_es {s t : State} (h : { t with es := s.es } = s) : Keeps s t := by
  have f {α : Type} (g : State → α) (hg : ∀ (u : State) (r : EsSt), g { u with es := r } = g u) : g t = g s := by
    have := congrArg g h; rwa [hg] at this
  exact keeps_units (f (·.pending) fun _ _ => rfl) (f (·.variant) fun _ _ => rfl) (f (·.shared) fun _ _ => rfl)
    (f (·.safe.safeIn) fun _ _ => rfl) (f (·.safe.safeOut) fun _ _ => rfl) (f (·.host.xfer) fun _ _ => rfl)
    (f (·.host.msixTable) fun _ _ => rfl) (f (·.engines) fun _ _ => rfl) (f (·.rtc) fun _ _ => rfl) (f (·.opNs) fun _ _ => rfl)

/-! ### The units -/

theorem setTask_keeps (t : Nat) (x : TaskSt) (s : State) : Keeps s (s.setTask t x) := keeps_units rfl rfl rfl rfl rfl rfl rfl rfl rfl rfl
theorem modTask_keeps (t : Nat) (f : TaskSt → TaskSt) (s : State) : Keeps s (s.modTask t f) := setTask_keeps _ _ _
theorem setRegion_keeps (r : Nat) (x : RegionSt) (s : State) : Keeps s (s.setRegion r x) := keeps_units rfl rfl rfl rfl rfl rfl rfl rfl rfl rfl
theorem modRegion_keeps (r : Nat) (f : RegionSt → RegionSt) (s : State) : Keeps s (s.modRegion r f) := setRegion_keeps _ _ _
theorem setTimer_keeps (n : Nat) (x : TimerSt) (s : State) : Keeps s (s.setTimer n x) := keeps_units rfl rfl rfl rfl rfl rfl rfl rfl rfl rfl
theorem setChan_keeps (c : Nat) (x : ChanSt) (s : State) : Keeps s (s.setChan c x) := keeps_units rfl rfl rfl rfl rfl rfl rfl rfl rfl rfl
theorem modChan_keeps (c : Nat) (f : ChanSt → ChanSt) (s : State) : Keeps s (s.modChan c f) := setChan_keeps _ _ _
theorem setIw_keeps (n : Nat) (w : ImgWord) (s : State) : Keeps s (s.setIw n w) := keeps_units rfl rfl rfl rfl rfl rfl rfl rfl rfl rfl
theorem setQw_keeps (n : Nat) (w : ImgWord) (s : State) : Keeps s (s.setQw n w) := keeps_units rfl rfl rfl rfl rfl rfl rfl rfl rfl rfl
theorem setQueue_keeps (i : Nat) (q : List QEntry) (s : State) : Keeps s (setQueue i q s) := keeps_units rfl rfl rfl rfl rfl rfl rfl rfl rfl rfl
theorem setSes_keeps (i : SesId) (x : SesSt) (s : State) : Keeps s (setSes i x s) := keeps_es (by unfold setSes; split <;> rfl)
theorem modSes_keeps (i : SesId) (f : SesSt → SesSt) (s : State) : Keeps s (modSes i f s) := setSes_keeps _ _ _
/-- An engine keeps the module well as far as its own memories stay canonical. -/
theorem setEngine_keeps (e : Nat) (x : EngineSt) (s : State) (h : (s.engine e).memWf = true → x.memWf = true) : Keeps s (s.setEngine e x) := by
  refine ⟨rfl, rfl, fun k => ?_, fun k => k⟩
  obtain ⟨h1, h2, h3, h4, h5, h6⟩ := k
  refine ⟨h1, h2, h3, h4, h5, fun j => ?_⟩
  simp only [State.engine, State.setEngine, tget_tset]
  split
  · exact h (h6 e)
  · exact h6 j
theorem modEngine_keeps (e : Nat) (f : EngineSt → EngineSt) (s : State) (h : ∀ x : EngineSt, x.memWf = true → (f x).memWf = true) :
    Keeps s (s.modEngine e f) := setEngine_keeps _ _ _ (h _)

/-! ### Signals and the pair's link -/

theorem setIrq_keeps (n : Nat) (s : State) : Keeps s (setIrq n s) := keeps_signals (setIrq_signals n s)
theorem diaryDrop_keeps (s : State) : Keeps s (diaryDrop s) := keeps_signals (diaryDrop_signals s)
theorem diaryRaise_keeps (code inst : Half) (d : List Byte) (s : State) : Keeps s (diaryRaise code inst d s) :=
  keeps_signals (diaryRaise_signals code inst d s)
theorem setCfgLoad_keeps (sec stage status : Byte) (d : Word) (s : State) : Keeps s (setCfgLoad sec stage status d s) :=
  keeps_trans (keeps_units (t := { s with cfg := { s.cfg with section_ := sec, stage := stage, status := status, detail := d } })
    rfl rfl rfl rfl rfl rfl rfl rfl rfl rfl) (keeps_signals (setCfgLoad_signals sec stage status d s))
theorem setRed_keeps (st : RedPhase) (token oe : Bool) (s : State) : Keeps s (setRed st token oe s) :=
  keeps_trans (keeps_red (s := s) (t := { s with red := { s.red with st := st, token := token, oe := oe } }) rfl)
    (keeps_signals (setRed_signals st token oe s))
theorem trelexClose_keeps (s : State) : Keeps s (trelexClose s) := keeps_red (trelexClose_frame s)
theorem sendRecord_keeps (kind : Byte) (b : List Byte) (s : State) : Keeps s (sendRecord kind b s) := keeps_red (sendRecord_frame kind b s)
theorem emit_keeps (kind : Byte) (b : List Byte) (s : State) : Keeps s (emit kind b s) := keeps_red (emit_frame kind b s)
theorem control_keeps (ty : Byte) (m : List Byte) (s : State) : Keeps s (control ty m s) := keeps_red (control_frame ty m s)
theorem emitMark_keeps (t : Nat) (kind : Byte) (act : Word) (s : State) : Keeps s (emitMark t kind act s) := keeps_red (emitMark_frame t kind act s)
theorem emitRefresh_keeps (w st : Nat) (s : State) : Keeps s (emitRefresh w st s) := keeps_red (emitRefresh_frame w st s)
theorem addDelta_keeps (es : List DeltaEntry) (s : State) : Keeps s (addDelta es s) := keeps_red (addDelta_frame es s)
theorem emitDelta_keeps (t : Nat) (act : Word) (es : List DeltaEntry) (s : State) : Keeps s (emitDelta t act es s) :=
  keeps_red (emitDelta_frame t act es s)
theorem noteChange_keeps (n : Nat) (a b : ImgWord) (s : State) : Keeps s (noteChange n a b s) := by
  unfold noteChange
  exact keeps_ite (keeps_units rfl rfl rfl rfl rfl rfl rfl rfl rfl rfl) (keeps_refl s)
theorem noteTriggers_keeps (ns : List Nat) (s : State) : Keeps s (noteTriggers ns s) := by
  unfold noteTriggers
  exact keeps_ite (keeps_units rfl rfl rfl rfl rfl rfl rfl rfl rfl rfl) (keeps_refl s)
theorem putIw_keeps (n : Nat) (w : ImgWord) (s : State) : Keeps s (putIw n w s) :=
  keeps_trans (setIw_keeps n w s) (keeps_trans (noteChange_keeps _ _ _ _) (emit_keeps _ _ _))
theorem heard_keeps (rx : TrelexRx) (s : State) : Keeps s (heard rx s) := keeps_red rfl
theorem noteRecord_keeps (rx : TrelexRx) (recs : List PartnerRec) (good : Bool) (s : State) : Keeps s (noteRecord rx recs good s) :=
  keeps_red rfl
/-- A record keeps what the effects of its frame's records keep. -/
theorem trelexRecord_keeps (rx : TrelexRx) (ok : Bool) (i : PartnerRec) (f : PartnerRec → State → State) (s : State)
    (h : ∀ r u, Keeps u (f r u)) : ∃ t, trelexRecord rx ok i f s = .next t ∧ Keeps s t :=
  ⟨_, rfl, keeps_ite (keeps_ite (keeps_trans (heard_keeps rx s) (keeps_foldl _ (fun u r => h r u) _ _)) (noteRecord_keeps _ _ _ s))
    (keeps_refl s)⟩

/-! ### The standby's judgement of its batches -/

theorem sendCard_keeps (s : State) : Keeps s (sendCard s) :=
  keeps_trans (keeps_red (t := { s with red := { s.red with card := ownCard s } }) rfl) (sendRecord_keeps _ _ _)
theorem maybeReady_keeps (s : State) : Keeps s (maybeReady s) := by
  unfold maybeReady
  exact keeps_ite (keeps_trans (setRed_keeps _ _ _ s) (sendCard_keeps _)) (keeps_refl s)
theorem withRed_keeps (x : RedSt) (s : State) : Keeps s { s with red := x } := keeps_red rfl
theorem judgeCompare_keeps (r : CompareRec) (at_ : Nat) (b : KeptBatch) (s : State) : Keeps s (judgeCompare r at_ b s) := by
  unfold judgeCompare
  simp only
  refine keeps_ite ?_ ?_
  · refine keeps_trans ?_ (maybeReady_keeps _)
    exact keeps_trans (keeps_trans (withRed_keeps _ s) (withRed_keeps _ _)) (sendRecord_keeps _ _ _)
  · exact keeps_trans (keeps_trans (withRed_keeps _ s) (sendRecord_keeps _ _ _)) (control_keeps _ _ _)
theorem settleCompares_keeps (s : State) : Keeps s (settleCompares s) := by
  unfold settleCompares
  refine keeps_ite (keeps_refl s) (keeps_foldl _ (fun s e => ?_) _ s)
  split
  · exact keeps_ite (keeps_refl s) (judgeCompare_keeps _ _ _ s)
  · exact keeps_refl s

/-! ### Tasks and queues -/

theorem setTaskRegions_keeps (t : Nat) (st : RegionState) (s : State) : Keeps s (setTaskRegions t st s) := by
  unfold setTaskRegions
  exact keeps_foldl _ (fun s _ => modRegion_keeps _ _ s) _ s
theorem glideRoutes_keeps (rs : List RouteCfg) (s : State) : Keeps s (glideRoutes rs s) := by
  unfold glideRoutes
  exact keeps_foldl _ (fun s r => setQw_keeps _ _ s) _ s
theorem glideBatch_keeps (t : Nat) (s : State) : Keeps s (glideBatch t s) := glideRoutes_keeps _ s
theorem withImg_keeps (x : ImgSt) (s : State) : Keeps s { s with img := x } := keeps_units rfl rfl rfl rfl rfl rfl rfl rfl rfl rfl
theorem voidBatch_keeps (t : Nat) (s : State) : Keeps s (voidBatch t s) := by
  unfold voidBatch
  exact keeps_ite (withImg_keeps _ s) (keeps_refl s)
theorem abortTask_keeps (t : Nat) (s : State) : Keeps s (abortTask t s) := by
  unfold abortTask
  refine keeps_trans (keeps_trans (keeps_trans (keeps_foldl _ (fun s e => ?_) _ s) (keeps_foldl _ (fun s i => setQueue_keeps _ _ s) _ _))
    (voidBatch_keeps t _)) (modTask_keeps _ _ _)
  exact keeps_ite (modEngine_keeps _ _ _ (fun _ h => h)) (keeps_refl s)
theorem raiseTaskStop_keeps (t : Nat) (cause : BitVec 4) (s : State) : Keeps s (raiseTaskStop t cause s) :=
  keeps_ite (diaryRaise_keeps _ _ _ s) (keeps_refl s)
/-- A batch that sets GLIDE = 1 changes the image alone. -/
theorem portGlide_keeps (j : PortJob) (s t : State) (h : portGlide j s = some t) : Keeps s t := by
  unfold portGlide at h
  split at h
  · cases h; exact keeps_trans (withImg_keeps _ s) (glideBatch_keeps _ _)
  · cases h; exact keeps_trans (withImg_keeps _ s) (glideRoutes_keeps _ _)
  · cases h
theorem portServe_keeps (n : Nat) (s : State) : Keeps s (portServe n s) := by
  induction n generalizing s with
  | zero => exact keeps_refl s
  | succ n ih =>
    unfold portServe
    refine keeps_ite (keeps_refl s) ?_
    split
    · exact withImg_keeps _ s
    · rename_i j _
      have took : Keeps s (if portCur s = some j then s else { s with img := { s.img with port := some j, portNs := s.now } }) :=
        keeps_ite (keeps_refl s) (withImg_keeps _ s)
      refine keeps_ite took ?_
      split
      · rename_i u hu
        exact keeps_trans (keeps_trans took (portGlide_keeps j _ _ hu)) (ih u)
      · exact took
theorem portKick_keeps (s : State) : Keeps s (portKick s) := portServe_keeps _ s
theorem requestGlide_keeps (t : Nat) (s : State) : Keeps s (requestGlide t s) :=
  keeps_trans (keeps_units rfl rfl rfl rfl rfl rfl rfl rfl rfl rfl) (portKick_keeps _)
theorem becomeReady_keeps (t : Nat) (s : State) : Keeps s (becomeReady t s) := keeps_trans (modTask_keeps _ _ s) (portKick_keeps _)
theorem recordBatch_keeps (t : Nat) (act : Word) (cause : BitVec 4) (s : State) : Keeps s (recordBatch t act cause s) :=
  keeps_ite (keeps_refl s) (keeps_trans (keeps_red (t := { s with red := _ }) rfl) (emit_keeps _ _ _))
/-- Tt stops (R88, R116): whatever it was doing. -/
theorem stopTask_keeps (t : Nat) (cause : BitVec 4) (s : State) : Keeps s (stopTask t cause s) := by
  unfold stopTask
  refine keeps_ite (keeps_refl s) ?_
  have h := keeps_trans (keeps_trans (keeps_trans (abortTask_keeps t s)
    (modTask_keeps t (fun x => { x with st := stopState cause, cause := cause, stopReq := none }) _)) (setTaskRegions_keeps t .stopped _))
    (keeps_trans (requestGlide_keeps t _) (raiseTaskStop_keeps t cause _))
  exact keeps_ite (keeps_trans h (keeps_trans (recordBatch_keeps _ _ _ _) (settleCompares_keeps _))) h
theorem stopNow_keeps (t : Nat) (cause : BitVec 4) (s : State) : Keeps s (stopNow t cause s) :=
  keeps_ite (keeps_refl s) (stopTask_keeps t cause s)
theorem regionStop_keeps (t : Nat) (s : State) : Keeps s (regionStop t s) :=
  keeps_ite (modTask_keeps _ _ s) (keeps_ite (modTask_keeps _ _ s) (stopNow_keeps t 3 s))
theorem stopAtEnd_keeps (t : Nat) (cause : BitVec 4) (s : State) : Keeps s (stopAtEnd t cause s) :=
  keeps_ite (modTask_keeps _ _ s) (keeps_ite (keeps_refl s) (keeps_ite (modTask_keeps _ _ s) (stopTask_keeps t cause s)))
theorem startTask_keeps (t : Nat) (keepBb : Bool) (s : State) : Keeps s (startTask t keepBb s) :=
  keeps_ite (keeps_refl s) (keeps_trans (modTask_keeps _ _ s) (setTaskRegions_keeps _ _ _))
theorem takeEntry_keeps (wave : Bool) (q : QEntry) (s : State) : Keeps s (takeEntry wave q s) := by
  cases q with
  | bb t n d m => exact keeps_ite (modTask_keeps _ _ s) (keeps_refl s)
  | qw t n d tag =>
    simp only [takeEntry]
    split
    · exact modTask_keeps _ _ s
    · exact keeps_ite (modTask_keeps _ _ s) (modTask_keeps _ _ s)
  | marker t l => exact keeps_refl s
theorem takeAll_keeps (wave : Bool) (qs : List QEntry) (s : State) : Keeps s (takeAll wave qs s) :=
  keeps_foldl _ (fun s q => takeEntry_keeps wave q s) qs s
theorem drainEngine_keeps (e : Nat) (s : State) : Keeps s (drainEngine e s) := keeps_trans (setQueue_keeps _ _ s) (takeAll_keeps _ _ _)
theorem takeOne_keeps (i : Nat) (s : State) : Keeps s (takeOne i s) := by
  unfold takeOne
  split
  · exact keeps_refl s
  · exact keeps_refl s
  · exact keeps_trans (setQueue_keeps _ _ s) (takeEntry_keeps _ _ _)
theorem pushEngine_keeps (e : Nat) (x : QEntry) (s : State) : Keeps s (pushEngine e x s) :=
  keeps_trans (keeps_ite (takeOne_keeps _ s) (keeps_refl s)) (setQueue_keeps _ _ _)

/-! ### FB instructions -/

theorem setPc_keeps (e : EngId) (p : Dword) (s : State) : Keeps s (setPc e p s) := modEngine_keeps _ _ _ (fun _ h => h)
theorem pcNext_keeps (e : EngId) (s : State) : Keeps s (pcNext e s) := setPc_keeps _ _ _
theorem wSet_keeps (e : EngId) (r : Reg) (v : Dword) (s : State) : Keeps s (wSet e r v s) :=
  keeps_ite (keeps_refl s) (modEngine_keeps _ _ _ (fun _ h => h))
theorem fbFlag_keeps (e : EngId) (t : TaskId) (bit : Nat) (s : State) : Keeps s (fbFlag e t bit s) :=
  keeps_ite (keeps_refl s) (keeps_trans (diaryRaise_keeps _ _ _ s) (modTask_keeps _ _ _))
theorem fbFlagIf_keeps (b : Bool) (e : EngId) (t : TaskId) (bit : Nat) (s : State) : Keeps s (fbFlagIf b e t bit s) :=
  keeps_ite (fbFlag_keeps e t bit s) (keeps_refl s)
theorem writeSafeOut_keeps (t : TaskId) (o : Nat) (bs : List Byte) (s : State) : Keeps s (writeSafeOut t o bs s) := by
  refine ⟨rfl, rfl, ?_, fun h => h⟩
  rintro ⟨h1, h2, h3, h4⟩
  refine ⟨h1, h2, ?_, h4⟩
  simp only [writeSafeOut]
  generalize s.safe.safeOut = m at h3
  generalize List.range bs.length = l
  induction l generalizing m with
  | nil => exact h3
  | cons i r ih =>
    refine ih _ ?_
    show (ite _ _ _ : Memory).wf = true
    split
    · exact writeByte_wf _ _ _ h3
    · exact h3
/-- A store keeps the form of the memory that it writes (Tables 4-2, 10-2). -/
theorem memWrite_keeps (e : EngId) (t : TaskId) (a : Nat) (bs : List Byte) (s : State) : Keeps s (memWrite e t a bs s) := by
  unfold memWrite
  split
  · refine modEngine_keeps _ _ _ (fun x h => ?_)
    simp only [EngineSt.memWf, Bool.and_eq_true] at h ⊢
    exact ⟨h.1, writeBytes_wf _ _ _ h.2⟩
  · refine ⟨rfl, rfl, ?_, ?_⟩
    · rintro ⟨h1, h2⟩
      exact ⟨writeBytes_wf _ _ _ h1, h2⟩
    · exact fun h => h
  · exact writeSafeOut_keeps _ _ _ s
  · exact keeps_refl s

/-! ### The mailbox and the engineering service -/

theorem mbPost_keeps (r : CmdRes) (s : State) : Keeps s (mbPost r s) := by
  unfold mbPost
  split
  · exact keeps_refl s
  · exact keeps_trans (keeps_units rfl rfl rfl rfl rfl rfl rfl rfl rfl rfl) (setIrq_keeps 0 _)
theorem portUsed_keeps (p : Port) (s : State) : Keeps s (portUsed p s) :=
  keeps_ite (keeps_units rfl rfl rfl rfl rfl rfl rfl rfl rfl rfl) (keeps_refl s)
/-- A mailbox command keeps what its own meaning keeps. -/
theorem mbCommand_keeps (code : Nat) (f : Option (CmdIn → State → CmdAns)) (p : Port) (tag : Half) (mem : List Byte) (s : State)
    (h : ∀ c u, Keeps u (runCommand code f c u).2) : Keeps s (mbCommand code f p tag mem s) := by
  have ha (a : CmdAns) : Keeps a.2 (mbAnswer a) := by
    unfold mbAnswer
    split
    · exact mbPost_keeps _ _
    · exact keeps_refl _
  have hm (u : State) (m : MbSt) : Keeps u { u with mb := m } := keeps_units rfl rfl rfl rfl rfl rfl rfl rfl rfl rfl
  unfold mbCommand mbIssue
  exact keeps_ite (keeps_trans (portUsed_keeps p s) (keeps_ite (hm _ _) (keeps_trans (keeps_trans (hm _ _) (h _ _)) (ha _)))) (keeps_refl s)
theorem esSend_keeps (i : SesId) (m : List Byte) (s : State) : Keeps s (esSend i m s) := modSes_keeps _ _ _
theorem esRespond_keeps (i : SesId) (status : Nat) (body : List Byte) (s : State) : Keeps s (esRespond i status body s) := by
  unfold esRespond
  split
  · exact keeps_refl s
  · exact keeps_trans (modSes_keeps _ _ _) (esSend_keeps _ _ _)
theorem closeSession_keeps (i : SesId) (s : State) : Keeps s (closeSession i s) :=
  keeps_trans (keeps_es (t := { s with es := _ }) rfl) (setSes_keeps _ _ _)
theorem esRead_keeps (i : SesId) (n : Nat) (s : State) : Keeps s (esRead i n s) := by
  induction n generalizing s with
  | zero => exact keeps_refl s
  | succ n ih =>
    unfold esRead
    split
    · exact keeps_refl s
    · refine keeps_ite (keeps_refl s) ?_
      split
      · exact closeSession_keeps i s
      · exact keeps_trans (modSes_keeps _ _ s) (ih _)
/-- A request keeps what serving one keeps. -/
theorem esServe_keeps (i : SesId) (n : Nat) (s : State) (h : ∀ op r u, Keeps u (esRun op r u).2) : Keeps s (esServe i n s) := by
  induction n generalizing s with
  | zero => exact keeps_refl s
  | succ n ih =>
    simp only [esServe]
    split
    · exact keeps_refl s
    · split
      · exact keeps_refl s
      · have := h
        split
        · exact h _ _ s
        · exact keeps_trans (keeps_trans (keeps_trans (h _ _ s) (esRespond_keeps _ _ _ _)) (esRead_keeps _ _ _)) (ih _)

end Sys2Proof.Machine
end

