-- ==== Sys2Proof/Tests/Slice0.lean ====
section
/-! SUPPORT. The model's own tests: ill-formed commands that WellFormed refuses, single steps with results that the manual
gives, and for every statement with hypotheses states and operands that meet them, clause by clause at their bounds. -/

open Sys2Proof
open Sys2Proof.Machine

namespace Sys2Proof.Tests

set_option Elab.async false

/-! ### Small states -/

/-- Logic is up. -/
def on : State :=
  { State.reset with
    sup := { State.reset.sup with phase := .run }, host := { State.reset.host with pcieUp := true, command := 6 } }
/-- Engine `e` runs Lesson 7 of T3 with W1 and W2. -/
def fb (e : EngId) (v u : Dword) : State :=
  on.modEngine e (fun x => { x with run := .lesson 3 7, w := [(1, v), (2, u)] })
/-- An image with T1 cyclic, T2 on events, T3 reflex, T4 safety, T5 with one wave; words and Lessons. -/
def img : ImageCfg :=
  { loaded := true
    tasks := [{}, { kind := 1, period := 1000, first := 1, count := 1 }, { kind := 2, trigger := 0x06000002, bbWords := 4 },
      { kind := 3, bbWords := 2 }, { kind := 4 }, { kind := 1, first := 0, count := 1 }]
    lessons := [{ kind := 1, unit := 0, task := 5 }, { kind := 2, unit := 0, task := 1, entry := 0x100 }]
    routes := [{ num := 256, endpoint := 7 }, { num := 0 }, { num := 1 }, { out := true, num := 5, owner := 1 }] }
def loaded : State := { on with run := img }
/-- `t` in the state `x`. -/
def task (t : Nat) (x : TaskSt) (s : State) : State := s.modTask t (fun _ => x)
/-- One die that runs in mode `m`. -/
def die (m : Byte) (f : DieSt → DieSt) : State :=
  on.modChan 0 (fun x => { x with die := f { x.die with powered := true, mode := m, st := .running } })
def pairImg : ImageCfg := { img with pair := true }
/-- A module of a pair in the state `st`. -/
def red (st : RedPhase) (f : RedSt → RedSt) : State :=
  { on with variant := .sh, run := pairImg, red := f { on.red with st := st, linkUp := true } }
/-- How a record comes in its turn at a module that has heard nothing yet. -/
def rx : TrelexRx := ⟨0, 0, 0, true, true⟩
/-- A KRIO frame, an Ethernet frame of port 3. -/
def krioRx (b : List Byte) : RingFrame := ⟨b, true, false, .krio⟩
def p3 : PlantRx := ⟨false, false, false⟩
def withArgs (a : List Word) : State := { on with mb := { on.mb with args := enumFrom 0 a } }

def hello (state : Byte) (gen : Word) (digest : List Byte) : HelloMsg := ⟨Variant.sh.code, true, state, Config.pairProtocol, 0, gen, digest⟩
theorem hello_compatible (s : State) (h : s.variant = .sh) (st : Byte) (g : Word) (d : List Byte) : compatible s (hello st g d) = true := by
  simp [compatible, hello, h]
/-- A HELLO of another variant. -/
theorem hello_incompatible (s : State) (h : s.variant = .sh) : compatible s { hello 2 0 [] with variant := 0xFF } = false := by
  simp [compatible, hello, h]; decide

theorem partnerReady_hello (s : State) (hv : s.variant = .sh) (hl : s.red.linkUp = true) (hp : s.red.partner = some (hello 6 0 [])) :
    partnerReady s = true := by
  simp only [partnerReady, hl, hp, hello_compatible s hv]; rfl
theorem goodPartner_hello (s : State) (hv : s.variant = .sh) (st : Byte) (hp : s.red.partner = some (hello st 0 [])) :
    goodPartner s = true := by
  simp only [goodPartner, hp, hello_compatible s hv]

/-! ### Ill-formed commands (the formats' bounds, cited in WellFormed) -/

theorem test_wf_rtcCmdUnknown : (Instr.rtcCmdUnknown 1).wf = false := by decide
theorem test_wf_rtcSettingWrite : (Instr.rtcSettingWrite 0x0C14 0).wf = false ∧ (Instr.rtcSettingWrite 0x0C1A 0).wf = false := by decide
theorem test_wf_badLengthMessage : (Instr.badLengthMessage 0 16).wf = false := by decide
theorem test_wf_hostRegisterWrite : (Instr.hostRegisterWrite .pcie .bar0 0 0 0).wf = false := by decide
theorem test_wf_unknownOp : (Instr.unknownOp 0x0001 ⟨0, 1, 0, []⟩).wf = false := by decide
theorem test_wf_lesson : (Instr.lessonStart 65536).wf = false ∧ (Instr.lessonComplete 65536).wf = false
    ∧ (Instr.wave 65536).wf = false ∧ (Instr.waveEnd 65536 ⟨[], []⟩).wf = false := by decide
theorem test_wf_station : (Instr.stationCycleStart 0).wf = false ∧ (Instr.stationCycleStart 255).wf = false
    ∧ (Instr.refresh ⟨rx, 1⟩ 255).wf = false := by decide
theorem test_wf_cvt : (Instr.cvt 0 .w .l false 1 2).wf = false ∧ (Instr.cvt 0 .s .s false 1 2).wf = false := by decide
theorem test_wf_engineScrub : (Instr.engineScrub 0 0 [32768] []).wf = false ∧ (Instr.engineScrub 0 0 [] [65536]).wf = false := by decide
theorem test_wf_writeMultipleRegisters : (Instr.writeMultipleRegisters ⟨0, false⟩ 1 0 2 [0]).wf = false := by decide
theorem test_wf_readRecord : (Instr.readRecord ⟨rx, ⟨1, 8, 0, 0, [0]⟩⟩).wf = false ∧ (Instr.readRecord ⟨rx, ⟨1, 1, 0, 0, []⟩⟩).wf = false := by decide
theorem test_wf_words : (Instr.words ⟨rx, [⟨32768, 0, 0⟩]⟩).wf = false ∧ (Instr.partner ⟨rx, [⟨32768, 0, 0⟩]⟩).wf = false := by decide
theorem test_wf_delta : (Instr.delta ⟨rx, 32⟩ 0 []).wf = false ∧ (Instr.delta ⟨rx, 0⟩ 0 [⟨7, 0, List.replicate 12 0⟩]).wf = false
    ∧ (Instr.delta ⟨rx, 0⟩ 0 [⟨1, 0, []⟩]).wf = false := by decide
theorem test_wf_compare : (Instr.compare ⟨rx, ⟨1, 0, false, 1, 0, 0, 0⟩⟩).wf = false ∧ (Instr.compare ⟨rx, ⟨1, 0, true, 0, 0, 0, 0⟩⟩).wf = false := by decide
theorem test_wf_statePage : (Instr.statePage ⟨rx, 0⟩ [0]).wf = false := by decide
theorem test_wf_reportCard : (Instr.reportCard ⟨rx, []⟩).wf = false := by decide
theorem test_wf_trelexHello : (Instr.trelexHello ⟨rx, ⟨4, false, 2, 1, 0, 0, List.replicate 32 0⟩⟩).wf = false
    ∧ (Instr.trelexHello ⟨rx, ⟨0, false, 8, 1, 0, 0, List.replicate 32 0⟩⟩).wf = false
    ∧ (Instr.trelexHello ⟨rx, ⟨0, false, 2, 1, 0, 0, []⟩⟩).wf = false := by decide
theorem test_wf_control : (Instr.handover ⟨rx, 0⟩ 0).wf = false ∧ (Instr.handover ⟨rx, 7⟩ 0).wf = false ∧ (Instr.loadCheck ⟨rx, false⟩ 0 []).wf = false
    ∧ (Instr.resyncRequest ⟨rx, 0⟩).wf = false ∧ (Instr.resyncRequest ⟨rx, 4⟩).wf = false := by decide
theorem test_wf_well_formed : (Instr.add 0 1 2 3).wf = true ∧ (Instr.stationCycleStart 254).wf = true
    ∧ (Instr.rtcSettingWrite 0x0C2C 0).wf = true := by decide

/-! ### Single steps. Expected results are the manual's, named by their rule, or those of a standard that it names. -/

/-- The state that a command leaves. -/
def after (i : Instr) (s : State) : State := match exec i s with | .next t => t | _ => s

/-- R93: the nearer bound. -/
theorem test_adds_saturates : wGet (after (.adds 0 3 1 2) (fb 0 0x7FFFFFFFFFFFFFFF 1)) 0 3 = 0x7FFFFFFFFFFFFFFF := by decide +kernel
theorem test_subusw_stops_at_zero : wGet (after (.subusw 0 3 1 2) (fb 0 5 6)) 0 3 = 0 := by decide +kernel
/-- R93: the wrapping operations. -/
theorem test_addw_wraps_signed : wGet (after (.addw 0 3 1 2) (fb 0 0x7FFFFFFF 1)) 0 3 = 0xFFFFFFFF80000000 := by decide +kernel
/-- Table 4-3: W0 discards a write. -/
theorem test_w0_stays_zero : wGet (after (.add 0 0 1 2) (fb 0 5 6)) 0 0 = 0 := by decide +kernel
/-- R94. -/
theorem test_div_by_zero : wGet (after (.div 0 3 1 2) (fb 0 5 0)) 0 3 = 0 ∧ ((after (.div 0 3 1 2) (fb 0 5 0)).task 3).fault.getLsbD 0 = true := by
  decide +kernel
theorem test_rem_sign_of_dividend : wGet (after (.rem 0 3 1 2) (fb 0 0xFFFFFFFFFFFFFFF9 2)) 0 3 = 0xFFFFFFFFFFFFFFFF := by decide +kernel
/-- Table 4-7: a shift count is taken modulo the width. -/
theorem test_sll_count_modulo_64 : wGet (after (.sll 0 3 1 2) (fb 0 3 65)) 0 3 = 6 := by decide +kernel
/-- R95, IEEE 754: 1.5 + 2.5 = 4 in S; 1 / 3 in D, rounded to nearest even. -/
theorem test_fadd_s : wGet (after (.fadd 0 .s 3 1 2) (fb 0 0x3FC00000 0x40200000)) 0 3 = 0x40800000 := by decide +kernel
theorem test_fdiv_d : wGet (after (.fdiv 0 .d 3 1 2) (fb 0 0x3FF0000000000000 0x4008000000000000)) 0 3 = 0x3FD5555555555555 := by decide +kernel
/-- R82: little-endian; a byte store leaves its neighbours. -/
theorem test_sd_then_lbu : wGet (after (.lbu 0 3 1 1) (after (.sd 0 2 1 0) (fb 0 8 0x1122334455667788))) 0 3 = 0x77 := by decide +kernel
/-- R81: ALIGN; R109: the task stops with FAULT. -/
theorem test_misaligned_load : ((after (.lw 0 3 1 1) (task 3 { st := .running } { (fb 0 8 0) with run := img })).engine 0).run = .free := by decide +kernel
/-- R83: the old word comes back, the sum is stored. -/
theorem test_amoadd : let t := after (.amoaddW 0 3 1 2) (fb 0 0x1000000 7); wGet t 0 3 = 0 ∧ readBytes t.shared 0 4 = [7, 0, 0, 0] := by
  decide +kernel
/-- Table 4-8: a branch target is counted in words from the branch. -/
theorem test_bne_taken : pcOf (after (.bne 0 1 2 3) (fb 0 5 6)) 0 = 12 := by decide +kernel
/-- R105: TON with a preset of 0 has Q at once. -/
theorem test_ton_preset_zero : (timerEdge { kind := 0 } (some true) none).q = true := by decide
/-- FIPS 180-4: the digest of "abc" begins BA7816BF. The CRC-32C check value of "123456789" is E3069283. -/
theorem test_sha256_abc : (sha256 [0x61, 0x62, 0x63]).take 4 = [0xBA, 0x78, 0x16, 0xBF] := by decide +kernel
theorem test_crc32c_check : crc32c [0x31, 0x32, 0x33, 0x34, 0x35, 0x36, 0x37, 0x38, 0x39] = 0xE3069283 := by decide +kernel
/-- R340: 2100 is no leap year, 2000 and 2024 are. -/
theorem test_leap_years : calInc ⟨2100, 2, 28, 23, 59, 59⟩ = ⟨2100, 3, 1, 0, 0, 0⟩ ∧ calInc ⟨2000, 2, 28, 23, 59, 59⟩ = ⟨2000, 2, 29, 0, 0, 0⟩
    ∧ calInc ⟨2024, 2, 29, 23, 59, 59⟩ = ⟨2024, 3, 1, 0, 0, 0⟩ := by decide +kernel
/-- Table 16-24, R392: NOP posts OK; RESET without its guard value is a BAD_ARG (4). -/
theorem test_nop_ok : (after (.nop .pcie 7) on).mb.rstat = 0 ∧ (after (.nop .pcie 7) on).mb.issued = 1 := by decide +kernel
theorem test_reset_guard : (after (.hostReset .spi 0) on).mb.rstat = 4 ∧ (after (.hostReset .spi 0) on).sup.resetAt = none := by decide +kernel
/-- R385: the baseplate warns at 85 °C, in units of 1/8 °C, and ends below 82 °C. -/
theorem test_thermal_hysteresis : (after (.thermalWarning 680 0) on).sup.thermWarn = true
    ∧ (after (.thermalWarning 656 0) (after (.thermalWarning 680 0) on)).sup.thermWarn = true
    ∧ (after (.thermalWarning 655 0) (after (.thermalWarning 680 0) on)).sup.thermWarn = false := by decide +kernel
/-- R92: an illegal word stops the Lesson. -/
theorem test_illegal_frees_the_engine : ((after (.illegal 0 0xFFFFFFFF) (task 3 { st := .running } { (fb 0 0 0) with run := img })).engine 0).run = .free := by decide +kernel
/-- R8, R274: IL_IN bands. -/
theorem test_ilin_released : (after (.ilInReading 999) (red .held id)).red.il = .released := by decide +kernel
theorem test_ilin_short : (after (.ilInReading 2600) (red .held id)).red.il = .short := by decide +kernel
/-- The table gives its rows no bits. -/
theorem test_no_word_is_a_command : decodeTableWord 32 0 = none ∧ (on.withFetchWord 32 0).pending = [] := by decide

/-! ### Witnesses: FB instructions -/

/-- The hypothesis that the result statements of FB instructions share: WrappingBitwiseAndSaturatingResults,
ShiftCompareExtendAndImmediateResults, DivisionResultsAndArithFlag. -/
theorem witness_Issues : Issues (fb 0 0 0) 0 3 7 ∧ Issues (fb 24 0 0) 24 3 7 := ⟨⟨by decide, by decide⟩, by decide, by decide⟩
theorem witness_FloatingPointResults : Issues (fb 0 0 0) 0 3 7 ∧ cvtKindsOk .s .d = true
    ∧ (∃ q, fpUnpack (fmtOf .s) 0x7FC00000 = .nan q) ∧ (∀ q, fpUnpack (fmtOf .s) 0 ≠ .nan q) ∧ (0x7FC00000 < 2 ^ (fmtOf .s).width) :=
  ⟨⟨by decide, by decide⟩, by decide, ⟨_, rfl⟩, fun _ h => by simp [fpUnpack, fmtOf] at h, by decide⟩
theorem witness_LoadsWriteMemoryBytesExtended : ∀ n ∈ [1, 2, 4, 8], loadFault (fb 0 0x3FFF8 0) 0 (memAddr (fb 0 0x3FFF8 0) 0 1 0) n = none := by
  decide
theorem witness_MemoryAccessFaultsInOrder :
    memAddr (fb 0 1 0) 0 1 0 % 2 ≠ 0 ∧ memPlace 0 (memAddr (fb 0 0x40000 0) 0 1 0) = .unmapped
      ∧ memPlace 0 (memAddr (fb 0 8 0) 0 1 0) = .local_ ∧ memAddr (fb 0 8 0) 0 1 0 / 8 ∈ (((fb 0 8 0).modEngine 0 (fun x => { x with eccWords := [1] })).engine 0).eccWords
      ∧ memPlace 24 (memAddr (fb 24 0x400000 0) 24 1 0) = .safeIn := by decide
theorem witness_StoresWriteExactlyTheirBytes :
    (∀ n ∈ [1, 2, 4, 8], storeFault 0 (memAddr (fb 0 0x1FFFFF8 0) 0 1 0) n = none)
      ∧ memPlace 0 (memAddr (fb 0 0x1FFFFF8 0) 0 1 0) = .shared ∧ memPlace 0 (memAddr (fb 0 0x3FFF8 0) 0 1 0) = .local_
      ∧ memPlace 24 (memAddr (fb 24 0x410000 0) 24 1 0) = .safeOut ∧ storeFault 24 (memAddr (fb 24 0x410000 0) 24 1 0) 8 = none
      ∧ safeOutTask { (fb 24 0x410000 0) with safe := { on.safe with pairs := [(0, { used := true, task := 3 })] } } 0 = some 3
      ∧ safeOutTask (fb 24 0x410000 0) 0 ≠ some 3 := by decide
theorem witness_AtomicOperationsExchangeOneSharedWord :
    (wGet (fb 0 0x1FFFFF8 0) 0 1).toNat % 8 = 0 ∧ memPlace 0 (wGet (fb 0 0x1FFFFF8 0) 0 1).toNat = .shared
      ∧ (wGet (fb 0 0x1000001 0) 0 1).toNat % 4 ≠ 0 ∧ memPlace 0 (wGet (fb 0 0x2000000 0) 0 1).toNat ≠ .shared := by decide
theorem witness_BranchesAndJumpsSetPc :
    let pc := pcOf (fb 0 0 0) 0
    (pc + 4 * (0x7FFF : Half).signExtend 64).toNat < 0x40000 ∧ (pc + 4 * (0xFFFF : Half).signExtend 64).toNat % 4 = 0
      ∧ (wGet (fb 0 0x3FFFC 0) 0 1 + (4 : Half).signExtend 64).toNat = 0x40000
      ∧ (wGet (fb 0 2 0) 0 1 + (0 : Half).signExtend 64).toNat % 4 ≠ 0 ∧ wGet (fb 0 1 1) 0 1 = wGet (fb 0 1 1) 0 2 := by decide
theorem witness_EntiEndAndTraps :
    let d : DescCfg := { addr := 0x100, size := 16, owner := 3, home := 0, flags := 2 }
    d.flags.getLsbD 1 = true ∧ d.owner.toNat = 3 ∧ (queueOf (fb 0 0 0) (engQueue 0)).length < 128
      ∧ 128 ≤ (queueOf (setQueue (engQueue 0) (List.replicate 128 (.marker 3 7)) (fb 0 0 0)) (engQueue 0)).length
      ∧ (({ (fb 0 0 0) with run := img } : State).tcfg 3).kind ≠ 0 ∧ legalWord 0xFFFFFFFF = false ∧ standby (fb 0 0 0) = false
      ∧ d.size = 16 ∧ (wGet (fb 0 65535 0) 0 1 + (1 : Half).setWidth 64).toNat = 65536 := by decide +kernel
theorem witness_SystemAndImageReads :
    standby (fb 0 0 0) = false ∧ streaming (fb 0 0 0) = false ∧ (routeOf img true 5).isSome = true ∧ (routeOf img true 6).isSome = false
      ∧ (routeOf img false 256).isSome = true
      ∧ standby { (fb 0 0 0) with red := { on.red with st := .ready } } = true
      ∧ streamRead { (fb 0 0 0) with red := { on.red with st := .ready, reads := [(0, ⟨3, 4, 7, 0, [9]⟩)] } } 3 4 7 0 = some 9
      ∧ streamRead (fb 0 0 0) 3 5 7 0 = none := by decide
theorem witness_ImageAndBlackboardStoresQueueEntries :
    let s : State := { (fb 0 32767 32768) with run := { img with tasks := [{}, {}, {}, { kind := 1, bbWords := 4096 }] } }
    Issues s 0 3 7 ∧ (wGet s 0 1 + (0 : Half).setWidth 64).toNat = 32767 ∧ (wGet s 0 2 + (0 : Half).setWidth 64).toNat = 32768
      ∧ (s.tcfg 3).bbWords.toNat ≤ (wGet s 0 1).toNat ∧ (wGet s 0 0 + (4095 : Half).setWidth 64).toNat < (s.tcfg 3).bbWords.toNat
      ∧ fetchFault (setPc 0 (pcOf s 0 + 4) s) 0 = none := ⟨⟨by decide, by decide⟩, by decide⟩
theorem witness_TimerInstructionsReachTheTasksOwnTimers :
    let s := (fb 0 8191 0).setTimer 8191 { used := true, owner := 3 }
    let x := s.timer (wGet s 0 1 + (0 : Half).setWidth 64).toNat
    Issues s 0 3 7 ∧ x.used = true ∧ x.owner.toNat = 3 ∧ x.fabric = false ∧ standby s = false
      ∧ (wGet s 0 1 + (1 : Half).setWidth 64).toNat = 8192 ∧ (2 ^ 48 - 1 : Dword).toNat < 2 ^ 48 := ⟨⟨by decide, by decide⟩, by decide⟩
theorem witness_TimersFollowTheirKind :
    let x : TimerSt := { used := true, kind := 0, inp := true, run := true, preset := 5, elapsed := 4 }
    x.run = true ∧ x.elapsed.toNat < x.preset.toNat ∧ x.rst = false ∧ (on.setTimer 8191 x).timer (8191 : Fin 8192) = x
      ∧ ({ x with kind := 1, inp := false } : TimerSt).run = true ∧ ({ x with kind := 2 } : TimerSt).kind = 2
      ∧ ({ x with elapsed := BitVec.allOnes 48 } : TimerSt).elapsed = BitVec.allOnes 48
      ∧ ({ x with elapsed := BitVec.allOnes 48 - 1 } : TimerSt).elapsed.toNat < 2 ^ 48 - 1
      ∧ ({ x with preset := BitVec.allOnes 48 } : TimerSt).elapsed.toNat < (BitVec.allOnes 48).toNat := by decide
theorem witness_MemoriesAndPlanesAreScrubbed :
    let e : ScrubErr := { region := 15, plane1 := false, block := 63, routing := true, idx := 255, double := false }
    let b : PlaneBit := ⟨15, true, 63, true, 255, 0⟩
    on.up = true ∧ (on.engine 0).run = .free
      ∧ 32767 ∈ ((on.modEngine 0 (fun x => { x with eccInstr := [32767] })).engine 0).eccInstr ∧ 32767 / 128 = 255
      ∧ ({ on with variant := .b } : State).variant.safety = false
      ∧ scrubSkips (on.modRegion 15 (fun x => { x with st := .idle })) e = false
      ∧ scrubSkips (on.modRegion 15 (fun x => { x with st := .loading })) e = true ∧ sameWord { e with plane1 := true } b = true
      ∧ ({ e with double := true } : ScrubErr).double = true
      ∧ ((on.modRegion 15 (fun x => { x with st := .idle })).region 15).fault = 0 ∧ on.red.st = .single
      ∧ (∀ k : RegionId, k ≠ e.region → ((on.modRegion 15 (fun x => { x with flips := [b, b] })).region k).flips = [])
      ∧ (∀ y ∈ ((on.modRegion 15 (fun x => { x with flips := [b, b] })).region 15).flips, sameWord { e with plane1 := true } y = true)
      ∧ ((on.modRegion 15 (fun x => { x with flips := [b] })).region 15).flips.length = 1 := by decide +kernel

/-! ### Witnesses: timetable, collector, fabric -/

theorem witness_DueTimesAndEventsRequestActivations :
    let busy (x : TaskSt) := task 1 { x with st := .running } loaded
    let late : TaskSt := { consec := 4 }
    on.running = true ∧ ownTiming on = true ∧ (loaded.tcfg 1).kind = 1 ∧ (loaded.tcfg 1).ovLimit = 0
      ∧ ((task 1 { st := .idle } loaded).task 1).st = .idle ∧ ((busy {}).task 1).busy = true
      ∧ (loaded.tcfg 2).kind = 2 ∧ (loaded.tcfg 2).trigger = 0x06000002
      ∧ ((task 2 { st := .running, pending := true } loaded).task 2).pending = true
      ∧ ((task 31 { st := .fault } loaded).task 31).st = .fault
      ∧ (loaded.tbrd % (loaded.tcfg 1).period.toNat = 0 ∧ (loaded.task 1).lastDue ≠ some loaded.tbrd)
      ∧ ({ loaded with now := 1000 } : State).tbrd % (loaded.tcfg 1).period.toNat ≠ 0
      ∧ satInc late.consec = (5 : Half) ∧ late.consec ≠ 5 ∧ ((2 : Byte) >>> 1).toNat % 4 = 1
      ∧ (0x06000002 : Word) ∈ ({ loaded with img := { on.img with events := [0x06000002] } } : State).img.events
      ∧ (1 : Word) ∉ loaded.img.events := by decide +kernel
/-- DueTimesAndEventsRequestActivations: SWITCHOVER in an active module with a READY partner. -/
theorem witness_OverrunsSwitchOver :
    let s := red .active (fun x => { x with partner := some (hello 6 0 []) })
    let v : State := { s with run := { pairImg with tasks := [{}, { kind := 1, period := 1000, ovLimit := 5, flags := 4 }] } }
    partnerReady s = true ∧ ownTiming s = true ∧ s.running = true ∧ s.red.handover = none ∧ (v.tcfg 1).ovLimit ≠ 0
      ∧ ((v.tcfg 1).flags >>> 1).toNat % 4 = 2 ∧ satInc (4 : Half) = (v.tcfg 1).ovLimit ∧ satInc (3 : Half) ≠ (v.tcfg 1).ovLimit :=
  ⟨partnerReady_hello _ rfl rfl rfl, by decide, by decide, by decide, by decide, by decide, by decide, by decide⟩
theorem witness_RollCallCopiesTheInputSet :
    let s := task 1 { st := .idle, wanted := true } loaded
    s.running = true ∧ ownTiming s = true ∧ rollCallNext s 1 = true
      ∧ ((task 1 { st := .rollCall } loaded).task 1).lessons = [] ∧ (loaded.tcfg 1).kind ≠ 4
      ∧ ((task 4 { st := .rollCall } loaded).task 4).st = .rollCall ∧ (loaded.tcfg 4).kind = 4 := by decide +kernel
theorem witness_LessonsStartAndComplete :
    let s := task 1 { st := .running, lessons := [(1, .ready)] } loaded
    (lessonCfg s.run 1).kind = 2 ∧ (lessonCfg s.run 1).unit.toNat < 24 ∧ (s.task 1).st = .running ∧ (s.engine 0).run = .free
      ∧ (s.engine 0).eccInstr = [] ∧ lessonState s 1 = .ready ∧ lessonFirst s 1 = true
      ∧ lessonState (task 1 { st := .running, lessons := [(1, .ended)] } loaded) 1 = .ended
      ∧ (∀ k ∈ taskLessons (s.tcfg 1), k ≠ 1 → tget .waiting (s.task 1).lessons k = .done)
      ∧ (let chain := { img with
            tasks := [{}, { kind := 1, first := 0, count := 2 }]
            lessons := [{ kind := 2, unit := 0, task := 1 }, { kind := 2, unit := 1, task := 1, preds := [0] }] }
         let u := task 1 { st := .running, lessons := [(0, .ended)] } { loaded with run := chain }
         1 ∈ taskLessons (u.tcfg 1) ∧ tget .waiting (u.task 1).lessons 1 = .waiting ∧ lessonState u 0 = .ended
           ∧ (∀ p ∈ (lessonCfg u.run 1).preds, p = 0 ∨ tget .waiting (u.task 1).lessons p = .done)) := by decide +kernel
theorem witness_CollectorTakesOwnWordsAndCountsForeignOnes :
    routeOf loaded.run true 5 = some { out := true, num := 5, owner := 1 } ∧ regionDrives loaded 1 5 = false
      ∧ routeOf loaded.run true 32767 = none ∧ 3 < (loaded.tcfg 2).bbWords.toNat := by decide +kernel
theorem witness_SealFlipPublishesTheWholeBatch :
    let s := task 1 { st := .publish, batch := [(5, ⟨9, 0x30000000⟩)] } { loaded with img := { on.img with port := some (.task 1) } }
    s.red.st = .single ∧ s.red.marks = [] ∧ (s.task 1).st = .publish ∧ (s.tcfg 1).kind = 1 ∧ (s.task 1).stopReq = none
      ∧ ((ownedRoutes s.run 1).map (·.num)).Nodup ∧ (ownedRoutes s.run 1).length = 1
      ∧ s.img.port = some (.task 1) ∧ s.img.lane = [] ∧ s.img.glides = [] ∧ s.img.lostWords = none ∧ (s.tcfg 1).kind ≠ 3 ∧ (s.tcfg 1).kind ≠ 4
      ∧ (let u := task 2 { st := .publish } { s with img := { s.img with port := some (.task 2) } }
         u.img.port = some (.task 2) ∧ (u.task 2).st = .publish ∧ (u.tcfg 2).kind ≠ 3) := by decide +kernel
theorem witness_TaskWatchdogStopsAndGlides :
    let s := task 1 { st := .publish } loaded
    (s.task 1).busy = true ∧ (s.tcfg 1).kind = 1 ∧ forceFor s true 5 = none ∧ (s.tcfg 1).watchdog.toNat * 1000 ≤ s.now - (s.task 1).startNs
      ∧ standby s = false ∧ (∀ k : TaskId, k ≠ 1 → (s.task k).st ≠ .publish) ∧ s.img.glides = [] ∧ s.img.port = none
      ∧ s.img.trelexIn = [] ∧ s.img.hostIn = [] ∧ (s.task 1).st ≠ .recess ∧ (loaded.tcfg 1).watchdog = 0
      ∧ (({ s with run := { img with tasks := [{}, { kind := 1, watchdog := 5 }] } } : State).tcfg 1).watchdog = 5
      ∧ s.img.lostWords = none ∧ s.img.lane = [] ∧ s.img.voidEnd ≤ s.now
      ∧ (let p : State := { s with img := { s.img with port := some (.task 1) } }
         let walked := p.img.portNs + (4 * ((ownedRoutes p.run 1).length + 1) + 2) / 3
         p.img.port = some (.task (1 : TaskId).val) ∧ walked ≤ ({ p with now := 3 } : State).now ∧ ({ p with now := 2 } : State).now < walked) := by
  decide +kernel
theorem witness_InputBatchesApplyWholeAndCount :
    let b : InBatch := ⟨6, .host, [⟨0, 7, 0⟩, ⟨32767, 1, 0⟩]⟩
    let s : State := { loaded with img := { on.img with hostIn := [b], port := some (.input false) }, mb := { on.mb with busy := some { code := 0x13 } } }
    s.img.hostIn = b :: [] ∧ (b.entries.map (·.num)).Nodup ∧ (∀ c, s.mb.busy = some c → c.code = 0x0013) ∧ s.img.lane = [] ∧ s.img.port = some (.input false)
      ∧ ({ loaded with img := { on.img with trelexIn := [{ b with cmd := .none }] } } : State).img.trelexIn = [{ b with cmd := .none }] :=
  ⟨rfl, by decide, fun _ h => by cases h; rfl, rfl, rfl, rfl⟩
theorem witness_ReflexTasksStartAndApply :
    let im : ImageCfg := { img with tasks := [{ kind := 3, trigger := 32767 }] }
    let s : State := { loaded with run := im, img := { on.img with arrivals := [(0, 250)] } }
    let r := task 0 { st := .running } s
    let y : LaneStep := ⟨0, [(5, ⟨1, 0⟩)], 0, 250, 0, 1⟩
    s.running = true ∧ ownTiming s = true ∧ (s.tcfg 0).kind = 3 ∧ ((task 0 { st := .idle } s).task 0).stopReq = none
      ∧ s.img.arrivals.find? (fun e => e.1 == 0) = some (0, 250) ∧ regionFaulted s 0 = false ∧ recessFirst s 0 = false
      ∧ (∀ e ∈ loaded.img.arrivals, e.1 ≠ 0)
      ∧ regionFaulted ({ s with run := { im with tasks := [{ kind := 3, regionMask := 1 }] } }.modRegion 0 (fun x => { x with st := .fault })) 0 = true
      ∧ (r.task 0).pending = false ∧ ((task 0 { st := .running, pending := true } s).task 0).pending = true
      ∧ ({ r with img := { on.img with lane := [y] } } : State).img.lane = y :: [] ∧ s.red.st = .single ∧ r.img.lostWords = none
      ∧ ((task 0 { st := .idle, stopReq := some 1 } s).task 0).stopReq ≠ none
      ∧ ((task 0 { st := .recess } s).task 0).st = .recess ∧ offInRecess (task 0 { st := .recess } s) 0 = false := by decide +kernel
theorem witness_WavesRunToTheirEndEdge :
    let s := task 5 { st := .running, lessons := [(0, .ready)] } loaded
    let w := s.modRegion 0 (fun x => { x with wave := true })
    (lessonCfg s.run 0).kind = 1 ∧ (s.tcfg 5).kind = 1 ∧ (s.task 5).st = .running ∧ standby s = false ∧ lessonState s 0 = .ready
      ∧ jointLessons s.run 0 = [0] ∧ waveRegions w 0 = [0] ∧ (w.task 5).waveStop = false ∧ s.running = true
      ∧ (∀ r ∈ jointRegions s.run [0], (s.region r).wave = false ∧ (s.region r).st ≠ .fault)
      ∧ parityErrors (waveEnv w [0]) [] = [] := by decide +kernel

/-! ### Witnesses: channels -/

theorem witness_ChannelFieldsReachThePoweredDie :
    let s (m : Byte) (o : OutField) (f : DieSt → DieSt) := (die m f).modChan 0 (fun x => { x with out := o })
    let d (s : State) := (s.chan 0).die
    let ready : DieSt → DieSt := id
    (d (s 5 { kind := .data } ready)).powered = true ∧ modeDigOut (d (s 5 {} ready)).m = true
      ∧ (d (s 5 {} (fun y => { y with st := .off }))).st = .off
      ∧ ({ tag := 0x20 } : OutField).tag.getLsbD 5 = true ∧ ({ tag := 0x13 } : OutField).tag &&& 3 = 3
      ∧ ({ tag := 0x10 } : OutField).tag.getLsbD 4 = true
      ∧ modeAo (d (s 0x13 { data := 0x7FFFFFFF } ready)).m = true ∧ (d (s 0x13 {} ready)).st = .running
      ∧ (d (s 5 { kind := .stop } (fun y => { y with st := .stopped }))).st = .stopped ∧ modeOut (d (s 1 { kind := .stop } ready)).m = false
      ∧ (d (s 0x13 { kind := .stop } (fun y => { y with phase := .end_ }))).phase = .end_
      ∧ (d (s 5 { kind := .config, chunk := 0 } (fun y => { y with st := .stopped }))).st = .stopped
      ∧ (d (s 5 { kind := .config, chunk := 1 } (fun y => { y with st := .stopped, chunk := 1 }))).chunk = 1
      ∧ (∀ c : Nat, c = 15 ∨ c = 16 → (d (s 5 { kind := .config, chunk := c } (fun y => { y with st := .stopped, chunk := c }))).chunk = c)
      ∧ recordStatus on 0 [] 0 ≠ 2 ∧ recordStatus on 0 [] 1 = 2
      ∧ (∀ m : Byte, (d (s m {} ready)).alive = true) ∧ (16 : Nat) < ({ chunk := 17 } : OutField).chunk
      ∧ (200000 : Int) + 200000 ≤ (d (s 0x13 {} (fun y => { y with failing := true, attained := 400000 }))).attained
      ∧ (d (s 0x13 {} (fun y => { y with failing := true }))).failing = true
      ∧ (let t (n : Nat) : State := { s 5 {} (fun y => { y with wdMs := 5 }) with clockNs := n }
         wdLate (t 5105000) (d (t 5105000)) = true ∧ wdLate (t 5104999) (d (t 5104999)) = false ∧ (d (t 0)).mode ≠ 0) :=
  by and_intros <;> first | exact fun _ => rfl | exact fun c h => by rcases h with rfl | rfl <;> decide | decide | decide +kernel
theorem witness_ChannelConditionsSetAndClear :
    let d (m : Byte) (f : DieSt → DieSt) := ((die m f).chan 0).die
    let wire : List Byte := (List.range 128).map (fun _ => 0xFF)
    modeDigOut (d 5 id).m = true ∧ (d 5 id).has dbOverload = false ∧ (d 5 (fun y => { y with limiting := true })).limiting = true
      ∧ (∀ m : Byte, m = 1 ∨ m = 2 ∨ m = 4 ∨ m = 7 → (d m id).m = m) ∧ (d 5 id).tripped = false
      ∧ (d 5 (fun y => { y with tripped := true })).tripped = true ∧ recLatch (d 5 id).record = false
      ∧ recLatch (d 5 (fun y => { y with record := wire })).record = true
      ∧ recWireCheck (d 5 (fun y => { y with record := wire, applied := true })).record = true
      ∧ (d 5 (fun y => { y with record := wire })).applied = false ∧ recWireCheck (d 3 (fun y => { y with record := wire })).record = true
      ∧ (d 6 id).m = 6 ∧ (d 5 id).mode ≠ 0 ∧ modeOut (d 5 id).m = true ∧ (d 5 id).gliding = false
      ∧ modeAo (d 0x13 (fun y => { y with live := 0x400 })).m = true ∧ (d 0x13 (fun y => { y with live := 0x400 })).has 10 = true
      ∧ modeAnaIn (d 0x10 id).m = true ∧ (die 5 id).up = true ∧ (d 5 (fun y => { y with wdMs := 5 })).wdOut = false
      ∧ (let t (n : Nat) : State := { die 5 (fun y => { y with wdMs := 5 }) with clockNs := n }
         wdMay (t 4899999) ((t 4899999).chan 0).die = false ∧ 980000 * ((t 4900000).chan 0).die.wdMs ≤ (t 4900000).clockNs - 0)
      ∧ faultConvs (d 0x13 id).record ≤ (d 0x13 (fun y => { y with faultRun := 10000 })).faultRun :=
  by and_intros <;> first | decide | exact fun m h => by rcases h with rfl | rfl | rfl | rfl <;> decide
/-- The free factor of FILT_MS lies between 0 and 1; one of the two cases of a filtered value holds for each. -/
theorem witness_ChannelConditionsAtTheirSwitches :
    let d (m : Byte) (f : DieSt → DieSt) := ((die m f).chan 0).die
    let filt : List Byte := List.replicate 0x34 0 ++ [1, 0, 0, 0]
    (∀ m : Byte, (d m id).alive = true) ∧ (d 5 (fun y => { y with applied := true })).closed = true
      ∧ (d 5 (fun y => { y with testing := true })).testing = true ∧ sensorSupply (d 7 id) = true ∧ modeDigOut (d 7 id).m = false
      ∧ (d 6 id).lockout = false ∧ (d 6 id).limiting = false ∧ (d 5 id).testing = false
      ∧ (d 0x13 id).failing = false ∧ recFailDir (d 0x13 (fun y => { y with record := List.replicate 32 0 ++ [2] })).record = 2
      ∧ (d 5 (fun y => { y with st := .ready })).st = .ready
      ∧ field (d 0x10 id).record 0x34 4 = 0 ∧ field (d 0x10 (fun y => { y with record := filt })).record 0x34 4 = 1
      ∧ (d 0x10 (fun y => { y with record := filt })).settled = false ∧ (d 0x10 (fun y => { y with settled := true })).settled = true
      ∧ (d 0x12 id).m = 0x12 ∧ (modeAo (d 0x12 id).m || modeAnaIn (d 0x12 id).m) = true
      ∧ (20000000 : Int) < 200001 * 100 - (d 0x13 id).setpoint ∧ ¬(20000000 : Int) < 200000 * 100 - (d 0x13 id).setpoint
      ∧ 20 ≤ tget 0 (d 0x13 (fun y => { y with onRun := [(10, 20)] })).onRun 10 ∧ tget 0 (d 0x13 (fun y => { y with onRun := [(10, 19)] })).onRun 10 < 20
      ∧ (d 0x13 (fun y => { y with supply := 99 })).supply.toNat + 200 < 300 ∧ 300 + 50 < (d 0x13 (fun y => { y with supply := 351 })).supply.toNat
      ∧ 300 ≤ (d 0x13 (fun y => { y with supply := 100 })).supply.toNat + 200 ∧ (d 0x13 (fun y => { y with supply := 350 })).supply.toNat ≤ 300 + 50
      ∧ (d 0x13 id).reservoir = 0 ∧ (10500000 : Int) < 10500001 ∧ (d 0x11 (fun y => { y with supply := 2600 })).supply.toNat ≤ 2600
      ∧ (d 0x11 (fun y => { y with supply := 2600 })).m = 0x11 ∧ (0 : Int) ≤ 22000000 := by
  refine ⟨fun _ => rfl, ?_⟩; decide +kernel
theorem witness_DieStepsOfEdgesSetpointsAndStart :
    let d (m : Byte) (f : DieSt → DieSt) := ((die m f).chan 0).die
    modeDigIn (d 4 id).m = true ∧ (d 4 id).accepted ≠ true ∧ recCountEdge (d 4 id).record = 0 ∧ recGateEn (d 4 id).record = false
      ∧ modeAo (d 0x13 (fun y => { y with phase := .ramp })).m = true ∧ (d 0x13 (fun y => { y with phase := .resume })).phase = .resume
      ∧ (d 0x13 (fun y => { y with failing := true })).phase = .idle
      ∧ recFailDir (d 0x13 (fun y => { y with record := List.replicate 32 0 ++ [1] })).record = 1
      ∧ glKind (d 5 (fun y => { y with phase := .delay, profile := List.replicate 64 0 ++ [0x10] })).profile = 0x10
      ∧ glKind (d 5 (fun y => { y with phase := .delay, profile := List.replicate 64 0 ++ [0x12] })).profile = 0x12
      ∧ 1 < (d 5 (fun y => { y with phase := .pulse, applied := false, pulses := 2 })).pulses
      ∧ (d 5 (fun y => { y with phase := .pulse, pulses := 1 })).pulses ≤ 1
      ∧ glSegs (d 0x13 (fun y => { y with phase := .dwell })).profile ≤ 0 + 1
      ∧ (d 5 (fun y => { y with highZ := true })).highZ = true ∧ (d 5 (fun y => { y with stored := true })).stored = true
      ∧ recMode (d 0 (fun y => { y with stored := true })).record = 0 := by decide +kernel
/-- The edge of ageUs 98 to 102 under a FILTER_US of 100, and one µs beside that window. -/
theorem witness_EdgesAreAcceptedWithinTwoPercent :
    let d := ((die 4 (fun y => { y with record := [0, 0, 0, 0, 100, 0, 0, 0] })).chan 0).die
    let f := field d.record 4 4
    d.alive = true ∧ f = 100 ∧ 98 * f ≤ 100 * 97 + 100 ∧ 100 * 103 ≤ 102 * f + 100 ∧ ¬98 * f ≤ 100 * 96 + 100 ∧ ¬100 * 104 ≤ 102 * f + 100
      ∧ d.st ≠ .off ∧ d.st ≠ .starting ∧ (98 * 0 ≤ 100 * 0 + 100 ∧ 100 * 0 ≤ 102 * 0 + 100)
      ∧ ((die 0x13 (fun y => { y with st := .holding, failing := true })).chan 0).die.st = .holding
      ∧ ((die 5 (fun y => { y with stored := true, highZ := true, pauseDone := true })).chan 0).die.pauseDone = true
      ∧ recMode ((die 5 (fun y => { y with stored := true, record := [5] })).chan 0).die.record = 5 := by decide +kernel
theorem witness_CouplerSlotsAndInboundFields :
    let s (n : Nat) := loaded.modChan 0 (fun x => { x with silent := n })
    loaded.up = true ∧ (loaded.chan 47).restart = .none ∧ ((s 4).chan 0).silent = 4 ∧ ((s 8).chan 0).silent = 8 ∧ ((s 8).chan 0).lost = false
      ∧ routedIn loaded.run 0 = true ∧ routedIn loaded.run 1 = true ∧ (loaded.chan 0).check = 0 ∧ (loaded.chan 0).die.powered = true
      ∧ hubGlides (die 5 id) 0 = true ∧ ((die 5 id).chan 0).die.alive = true
      ∧ (let u : State := { loaded with chans := (List.range 48).map (fun k => (k, if k = 1 then { die := { powered := false } } else { heard := true })) }
         (∀ k : ChanId, k ≠ 0 → (u.chan k).heard = true ∨ (u.chan k).die.alive = false) ∧ (u.chan 0).die.alive = true)
      ∧ (let u : State := { loaded with img := { on.img with slotIn := [(0, 7, 0), (1, 9, 0)] } }
         (0, 7, 0) ∈ u.img.slotIn ∧ (∀ e ∈ u.img.slotIn, e.1 = 0 → e = (0, 7, 0)) ∧ (u.chan 0).silent = 0)
      ∧ (∃ k : ChanId, k ≠ 0 ∧ (loaded.chan k).heard = false ∧ (loaded.chan k).die.alive = true)
      ∧ simFor loaded 0 = none ∧ forceFor loaded false 0 = none
      ∧ (let j : FwJob := { left := [1, 2, 3, 4, 5, 6, 7, 8, 9], hold := true }
         let w (f : Option FwJob) := loaded.modChan 0 (fun x => { x with restart := .config, fw := f })
         fwHolds ((w (some j)).chan 0) = true ∧ fwHolds ((w (some { j with hold := false })).chan 0) = false ∧ fwHolds ((w none).chan 0) = false
           ∧ ((w (some j)).chan 0).die.alive = true ∧ (w (some j)).tbrd / 5 % 2 = 0
           ∧ ({ w (some { j with left := [] }) with now := 5000 } : State).tbrd / 5 % 2 = 1) := by decide +kernel
theorem witness_ControllersStopRestartAndSwitchSlots :
    let off := loaded.modChan 47 (fun x => { x with die := { x.die with powered := false } })
    let clk := loaded.modChan 47 (fun x => { x with die := { x.die with clkFail := true } })
    let other (w : Half) := on.modChan 0 (fun x => { x with die := { x.die with fw0 := { ver := 7 }, fw1 := { ver := w } } })
    (off.chan 47).die.alive = false ∧ (on.chan 0).die.alive = true ∧ off.up = true ∧ off.run.loaded = true ∧ State.reset.up = false
      ∧ (clk.chan 47).die.alive = false ∧ (clk.chan 47).die.powered = true ∧ (off.chan 47).die.powered = false
      ∧ dieFw ((other 0).chan 0).die ≠ (runningBank on).chanVer ∧ (otherSlot ((other 0).chan 0).die).ver = (runningBank on).chanVer
      ∧ (otherSlot ((other 7).chan 0).die).ver ≠ (runningBank on).chanVer ∧ ((other 0).chan 0).fw.any (·.switch) = false
      ∧ dieFw (on.chan 0).die = (runningBank on).chanVer
      ∧ (((other 0).modChan 0 (fun x => { x with fw := some { switch := false } })).chan 0).fw.any (fun j => !j.switch) = true := by decide +kernel

/-! ### Witnesses: the mailbox, updates, the host port, storage, the Diary -/

/-- Ready storage with an open sector of each log. -/
def headOf (area : Byte) : SectorHead := let h : SectorHead := { area := area }; { h with crc := crc32c (headBytes h) }
def stored (recs : List DcRec) : State :=
  { on with stor := { on.stor with
      ready := true, ps := { secs := [(0, { st := .used, head := some (headOf 1) })] }
      dc := { secs := [(0, { st := .used, head := some (headOf 4), recs := recs })] } } }
def psRec (p seq : Nat) (d : List Byte) : PsRec :=
  let r : PsRec := { page := p, seq := seq, len := d.length, data := d, crc := crc32c d }
  { r with hcrc := crc32c (psHeader r) }
/-- A page of the parameter store holds `d`. -/
def page (p : Nat) (d : List Byte) (s : State) : State := { s with stor := { s.stor with
  ready := true, psSeq := 1, ps := { secs := [(0, { st := .used, head := some (headOf 1), recs := [psRec p 0 d] })] } } }

theorem witness_MailboxModuleAndTaskCommands :
    let t (x : TaskSt) := task 1 x loaded
    let free (s : State) := s.running = true ∧ s.mb.busy = none
    free on ∧ argN (withArgs [0x5253]) 0 = 0x5253 ∧ on.sup.resetAt = none ∧ argN (withArgs [31]) 0 = 31 ∧ argN (withArgs [1]) 0 < 32
      ∧ (loaded.tcfg 1).kind ≠ 0 ∧ ((t { st := .idle }).task 1).wanted = false ∧ lanePending 1 (t { st := .idle }) = false ∧ ((t { st := .running }).task 1).st = .running
      ∧ regionFaulted (t { st := .fault }) 1 = false ∧ regionRestarting (t { st := .fault }) 1 = false ∧ (t {}).cfg.job = none
      ∧ (on.region 15).wave = false ∧ on.pcieReach = true ∧ on.safe.st ≠ .stop ∧ on.red.st = .single ∧ argN (withArgs [512]) 0 = 512 ∧ argN (withArgs [513]) 0 = 513 ∧ argN on 0 = 0
      ∧ argN (withArgs [47]) 0 = 47 ∧ (on.region 15).restart = .none ∧ regionOwner on.run 15 = none ∧ (on.chan 47).restart = .none
      ∧ on.img.glides = [] ∧ on.img.lostWords = none
∧ regionOwner { img with tasks := [{ kind := 1, regionMask := 0x8000 }] } 15 = some 0 := by decide +kernel
/-- MailboxModuleAndTaskCommands, second part. -/
theorem witness_MailboxDiscardsWhileBusy :
    let s : State := { on with mb := { on.mb with busy := some {} } }
    s.up = true ∧ s.pcieReach = true ∧ s.mb.busy ≠ none := by decide
theorem witness_MailboxTransferAndUploadCommands :
    let up (n : Nat) (a : List Word) : State := { (withArgs a) with mb := { (withArgs a).mb with upload := some { size := n } } }
    MbFree on ∧ argN (withArgs [4096, 0]) 0 = 4096 ∧ argN (withArgs [4096, 0]) 1 = on.mb.asm.length ∧ argN (withArgs [1, 5]) 1 ≠ 0
      ∧ argN (withArgs [0, 0, 65536]) 2 = 65536 ∧ on.mb.upload = none ∧ stagingFull on = false ∧ argN (withArgs [0x02800000]) 0 = 0x02800000
      ∧ (up 1 []).mb.upload = some { size := 1 } ∧ argN (up 1 []) 0 = 0 ∧ argN (up 1 [1]) 0 ≠ 0 ∧ loadBusy on = false
      ∧ loadBusy { on with cfg := { on.cfg with job := some {} } } = true
      ∧ ({ (up 5 []) with mb := { (up 5 []).mb with asm := [1, 2, 3, 4, 5] } } : State).mb.asm.length = min 65536 (5 - 65536 * 0)
      ∧ 0 + 60000000000 ≤ ({ (up 5 []) with now := 60000000000 } : State).now ∧ ({ (up 5 []) with now := 59999999999 } : State).now < 0 + 60000000000
      ∧ on.host.command.getLsbD 2 = true ∧ ({ on with host := { on.host with command := 2 } } : State).host.command.getLsbD 2 = false
      ∧ on.stor.worn = [] ∧ on.stor.retired = [] ∧ on.stor.refresh = none ∧ on.stor.remap = [] :=
  ⟨⟨by decide, by decide, by decide⟩, by and_intros <;> decide⟩
theorem witness_PagesAndCountersReadAndWrite :
    let c (base prog : Nat) := stored [dcNew 1023 1 base prog {}]
    let busy : State := { stored [] with stor := { (stored []).stor with psTimes := List.replicate 200 0, dcTimes := List.replicate 500 0 } }
    MbFree (stored []) ∧ StoreRoom { stored [] with stor := { (stored []).stor with psSeq := 1 } } ∧ psRateOver (stored []) 1 = false
      ∧ argN (withArgs [4095, 255, 256]) 0 = 4095 ∧ argN (withArgs [4095, 255, 256]) 1 = 255 ∧ argN (withArgs [4095, 255, 256]) 2 = 256
      ∧ dcRateFull (c 0 254) = false ∧ dcCurrent (c 0 254) 1023 = some (0, dcNew 1023 1 0 254 {}) ∧ dcValue (c 0 254) 1023 < 2 ^ 64 - 1
      ∧ AreaRoom dcLog (c 0 254) ∧ dcValue (c (2 ^ 64 - 1) 0) 1023 = 2 ^ 64 - 1 ∧ psRateOver busy 1 = true ∧ dcRateFull busy = true :=
  ⟨⟨by decide, by decide, by decide⟩, ⟨by decide, ⟨by decide +kernel, by decide +kernel, by decide +kernel, by decide +kernel, by decide +kernel, by decide +kernel⟩, by decide +kernel⟩,
    by decide, by decide, by decide, by decide, by decide, by decide +kernel, by decide +kernel,
    ⟨by decide +kernel, by decide +kernel, by decide +kernel, by decide +kernel, by decide +kernel, by decide +kernel⟩, by decide +kernel, by decide +kernel, by decide +kernel⟩
/-- UpdateAndPairCommands, first part; the second part follows. -/
theorem witness_UpdateCommands :
    let u (st : UpdPhase) : State := { on with upd := { on.upd with st := st, pkg := some { size := 64 } } }
    let full : UpdPkg := { size := 64, chunks := [(0, [1])] }
    MbFree (u .idle) ∧ argN (withArgs [0, 0, 0, 0, 0x02000000]) 4 = 0x02000000 ∧ (u .idle).upd.st = .idle ∧ (u .prepared).upd.st ≠ .trial
      ∧ chunkSize { (u .receiving) with mb := { on.mb with asm := List.replicate 64 0 } } 0 = some 64 ∧ stagingFull (u .receiving) = false
      ∧ full.chunks.length = (full.size + 65535) / 65536 ∧ (u .receiving).stor.worn = [] ∧ (u .receiving).stor.retired = []
      ∧ (∃ r ∈ ([{ kind := 2, crc := crc32c [1] }] : List UpdRec), r.kind = 2 ∧ r.value = 0 ∧ r.crc = crc32c [1])
      ∧ (∀ r ∈ ([{ kind := 2, crc := 5 }] : List UpdRec), ¬(r.kind = 2 ∧ r.value = 0 ∧ r.crc = crc32c [1])) ∧ (u .trial).upd.pkg ≠ none
      ∧ goodPartner (red .held id) = false ∧ (u .prepared).cfg.job = none ∧ (u .prepared).red.st = .single
      ∧ (u .prepared).run.pair = false ∧ (u .prepared).sup.resetAt = none ∧ trialHolds (u .trial) = true
      ∧ trialHolds { (u .trial) with run := img } = false ∧ (u .trial).variant.redundancy = true
      ∧ ({ on with variant := .b } : State).variant.redundancy = false ∧ (red .active id).red.handover = none
      ∧ partnerReady (red .active (fun r => { r with partner := some (hello 6 0 []) })) = true
      ∧ (red .disqualified id).red.st = .disqualified ∧ partnerActive (red .comparing id) = false :=
  ⟨⟨by decide, by decide, by decide⟩, by and_intros <;> first | exact partnerReady_hello _ rfl rfl rfl | decide | decide +kernel⟩
theorem witness_UpdatePreparationAndTrial :
    let p : UpdPkg := { size := 64, chunks := [(0, List.replicate 64 0)] }
    let s (st : UpdPhase) : State := { on with upd := { on.upd with st := st, pkg := some p } }
    let auto : State := { page 0x31 [4, 0, 60, 0, 0, 0] on with upd := { on.upd with st := .trial } }
    (s .verifying).up = true ∧ (s .verifying).upd.pkg = some p ∧ verifyPkg (s .verifying) p ≠ 0 ∧ (s .preparing).upd.st ≠ .verifying
      ∧ (partEntries (pkgManifest (pkgBytes p))).any (fun e => e.part == 4) = false
      ∧ (s .preparing).stor.refresh = none ∧ (∀ c : ChanId, ((s .preparing).chan c).fw = none) ∧ hasChannel p = false
      ∧ (s .preparing).stor.remap = [] ∧ (buildBank (s .preparing) (pkgBytes p)).isSome = true ∧ auto.upd.st = .trial ∧ autoConfirmS auto ≠ 0
      ∧ trialHolds auto = true ∧ trialHolds { auto with run := img } = false
      ∧ ({ auto with upd := { auto.upd with holdFrom := some 0 } } : State).upd.holdFrom = some 0
      ∧ 0 + 1000 * autoConfirmS auto ≤ ({ auto with opMs := 60000 } : State).opMs
      ∧ ({ auto with opMs := 59999 } : State).opMs < 0 + 1000 * autoConfirmS auto := by decide +kernel
theorem witness_HostPortReadsWritesAndSnapshots :
    let s : State := { on with host := { on.host with snapBusy := true, snapPeriod := 100 } }
    on.up = true ∧ on.pcieReach = true ∧ ({ on with host := { on.host with command := 4 } } : State).pcieReach = false ∧ on.host.freeze = false ∧ on.host.snapBusy = false ∧ s.host.snapPeriod ≠ 0 ∧ s.host.snapBusy = true ∧ (3 : Nat) % 4 ≠ 0
      ∧ (4092 : Nat) % 4 = 0 := by decide
theorem witness_StorageRefreshEraseAndOperatingTime :
    let s := stored [dcNew 1 1 0 254 {}]
    let e (f : StorSt → StorSt) : State := { s with stor := f s.stor }
    s.up = true ∧ s.sup.phase ≠ .dusk ∧ isPs s.stor.nextCheck = false ∧ isDc s.stor.nextCheck = false ∧ s.stor.refresh = none
      ∧ (pickReserve s s.stor.nextCheck).isSome = true ∧ (e (fun x => { x with nextCheck := 4095 })).stor.nextCheck = 4095
      ∧ (e (fun x => { x with refresh := some (7, 4000, .erased) })).stor.refresh = some (7, 4000, .erased) ∧ s.safe.logWait = [] ∧ 7 ∉ s.stor.erasing
      ∧ (e (fun x => { x with refresh := some (7, 4000, .copied) })).stor.refresh = some (7, 4000, .copied)
      ∧ s.stor.worn = [] ∧ s.stor.retired = [] ∧ headFull s = false ∧ isPs (e (fun x => { x with nextCheck := 1280 })).stor.nextCheck = true
      ∧ (areaSec psLog s 0).st = .used ∧ psErased s ≠ []
      ∧ 4095 ∈ (e (fun x => { x with erasing := [4095] })).stor.erasing ∧ s.stor.remap.length < 512 ∧ (pickReserve s 4095).isSome = true
      ∧ dcValue s 1 < ({ s with opMs := 255 * 60000 } : State).opMs / 60000 ∧ ({ s with opMs := 255 * 60000 - 1 } : State).opMs / 60000 ≤ dcValue s 1
      ∧ dcCurrent s 1 = some (0, dcNew 1 1 0 254 {}) ∧ dcValue s 1 < 2 ^ 64 - 1 := by decide +kernel
theorem witness_DiaryEntersDrainsAndReads :
    let d (f : DiarySt → DiarySt) : State := { on with diary := f on.diary }
    let r : Raised := { code := 0x7001 }
    let x : DRec := { seq := 7 }
    let low : Raised := { code := 0xF004 }
    let c : Half := low.code
    let b (n p : Nat) := d (fun y => { y with raised := [low], buckets := [(c.toNat, { spent := n, pending := p })] })
    d (fun y => { y with head := y.head }) = on ∧ diaryRewrite on = false ∧ on.stor.worn = [] ∧ on.stor.retired = []
      ∧ diaryRewrite { on with stor := { on.stor with refresh := some (diaryBase, 4000, .copied) } } = true
      ∧ (ringSector (d (fun y => { y with ring := [(y.head, List.replicate 1023 none)] })) on.diary.head).length + 1 = 1024
      ∧ diaryBase + on.diary.readySec ∉ on.stor.erasing ∧ diaryBase + on.diary.readySec ∉ on.stor.abandoned
      ∧ (bucketOf (b 64 5) c).since + 60000 ≤ ({ b 64 5 with opMs := 60000 } : State).opMs
      ∧ ({ b 64 5 with opMs := 59999 } : State).opMs < (bucketOf (b 64 5) c).since + 60000
      ∧ (d (fun y => { y with host := { y.host with snap := some (7, 7), empty := true } })).diary.host.empty = true
      ∧ (d (fun y => { y with raised := [r] })).diary.raised = r :: [] ∧ on.diary.lost = 0 ∧ 256 ≤ journalFree on ∧ severityOf 0xB001 ≤ 3
      ∧ severityOf c ≠ 3 ∧ on.diary.fill = false ∧ (bucketOf (b 63 0) c).spent < 64 ∧ 64 ≤ (bucketOf (b 64 5) c).spent
      ∧ (bucketOf (b 64 5) c).pending + 1 ≠ 65535 ∧ (d (fun y => { y with journal := [x] })).diary.journal = x :: [] ∧ on.stor.refresh = none
      ∧ (ringSector on on.diary.head).length + 1 < 1024 ∧ twf {} (b 64 5).diary.buckets = true
      ∧ on.diary.refillS < ({ on with opMs := 1000 } : State).opMs / 1000 ∧ ({ on with opMs := 999 } : State).opMs / 1000 ≤ on.diary.refillS ∧ (bucketOf (b 64 5) c).pending ≠ 0
      ∧ (d (fun y => { y with ready := true, host := { y.host with snap := some (7, 7), record := some x, request := some 7 } })).diary.ready = true
      ∧ diaFind (d (fun y => { y with journal := [x] })) 7 7 7 = some (x, 0) ∧ diaFind (d (fun y => { y with journal := [x] })) 7 7 8 = none := by
  decide +kernel

/-! ### Witnesses: the clock and the supervisor -/

def clock (f : RtcSt → RtcSt) : State := { on with rtc := f on.rtc }

theorem witness_ClockCommandsApplyAtTheirEdge :
    let r := on.rtc
    let last : Cal := ⟨4095, 12, 31, 22, 59, 58⟩
    on.up = true ∧ r.clkFail = false ∧ r.commit = none ∧ r.shift = none ∧ syncLocked on = false ∧ calValid (calOfSet r.set0 r.set1) = false
      ∧ calValid (calOfSet 0 0xFFFCF800) = true
      ∧ (clock (fun r => { r with clkFail := true })).rtc.clkFail = true ∧ (clock (fun r => { r with shift := some true })).rtc.shift ≠ none
      ∧ calSeconds (calInc last) + 3600 ≤ calSeconds calEnd ∧ 3600 ≤ calSeconds (calInc ⟨2000, 1, 1, 0, 59, 59⟩)
      ∧ (clock (fun r => { r with summer := true })).rtc.summer = true ∧ (clock (fun r => { r with commit := some (last, true) })).rtc.commit ≠ none
      ∧ (clock (fun r => { r with pwronReq := true })).rtc.pwronReq = true
      ∧ syncLocked { (clock (fun r => { r with sync := 1 })) with net := { on.net with ptpLocked := true } } = true
      ∧ 1000000 ≤ absDiff (plantLocalNs { on with net := { on.net with plantNs := 10 ^ 18 } }) (calNs on.rtc)
      ∧ absDiff (plantLocalNs { on with net := { on.net with plantNs := 946684830 * 10 ^ 9 } }) (calNs (clock (fun r => { r with cal := { r.cal with sec := 30 } })).rtc) < 1000000
      ∧ 946684830 % 60 = 30 ∧ (10 ^ 18 / 1000000000 + 10) % 60 ≠ 30 ∧ r.cal ≠ calEnd ∧ (clock (fun r => { r with cal := calEnd })).rtc.cal = calEnd
      ∧ (clock (fun r => { r with commit := some (last, true), syncing := true })).rtc.syncing = true
      ∧ alarmInRange 0x408 = true ∧ alarmVoid 0x448 0 = false ∧ alarmVoid 0x448 0x20 = false
      ∧ powerAbsent { on with sup := { on.sup with phase := .reset, ps1Ok := false, ps2Ok := false } } = true
      ∧ ({ on with clockNs := 50000000, sup := { on.sup with inputLost := true } } : State).sup.lossNs + 50000000
          ≤ ({ on with clockNs := 50000000, sup := { on.sup with inputLost := true } } : State).clockNs := by
  and_intros <;> first | decide | decide +kernel
theorem witness_InputLossRideThroughAndDusk :
    let s (p : Phase) (f : SupSt → SupSt) : State := { loaded with sup := f { on.sup with phase := p } }
    on.sup.phase = .run ∧ on.sup.inputLost = false ∧ (s .recovery id).sup.riding = false ∧ on.up = true
      ∧ (s .run (fun x => { x with ps1Ok := false, ps2Ok := false })).sup.ps2Ok = false
      ∧ (let l (n : Nat) (v : Half) : State := { s .run (fun x => { x with riding := true, inputLost := true, holdup := v }) with clockNs := n }
         (l 10000000 0).sup.lossNs + 10000000 ≤ (l 10000000 0).clockNs ∧ (l 9999999 0).clockNs < (l 9999999 0).sup.lossNs + 10000000
           ∧ (l 0 33999).sup.holdup.toNat < 34000
           ∧ 34000 * 34000 + 40 * ((l 9999999 39450).clockNs - (l 9999999 39450).sup.holdAt) ≤ (l 9999999 39450).sup.holdup.toNat * (l 9999999 39450).sup.holdup.toNat)
      ∧ (s .run (fun x => { x with riding := true })).sup.riding = true
      ∧ (s .run (fun x => { x with ps1Ok := true })).sup.ps1Ok = true ∧ (s .dusk id).sup.phase = .dusk ∧ (s .dusk id).run.loaded = true
      ∧ (s .dusk (fun x => { x with ending := some (2, 0) })).sup.ending ≠ none
      ∧ Quiet (s .dusk (fun x => { x with ending := some (2, 0) })) :=
  by and_intros <;> first | decide | decide +kernel
theorem witness_ResetsButtonAndTemperatures :
    let s (f : SupSt → SupSt) : State := { on with sup := f on.sup }
    on.sup.phase = .run ∧ Quiet on ∧ on.variant.safety = true ∧ ({ on with variant := .b } : State).variant.safety = false
      ∧ (Config.freeBool on.free = true ∨ Config.freeBool on.free = false)
      ∧ (s (fun x => { x with button := true })).sup.pressWin = false ∧ (s (fun x => { x with patternOpen := true, pattern := 4 })).sup.stuck = false
      ∧ (s (fun x => { x with patternOpen := true, pattern := 2 })).sup.pattern = 2
      ∧ (s (fun x => { x with button := true, pressWin := true, pattern := 3 })).sup.pressWin = true ∧ on.sup.button = false
      ∧ (799 : Half).toInt < 800 :=
  ⟨by decide, ⟨by decide, by decide, by decide +kernel⟩, by decide, by decide, by cases Config.freeBool on.free <;> simp, by decide, by decide, by decide, by decide,
    by decide, by decide⟩
theorem witness_DawnRunsTheFlashImage :
    let d : DawnIn := ⟨true, false, false, none, 0, true, true, true, true, 3000, 900, true, []⟩
    inputSteady State.reset = true ∧ inputSteady { State.reset with sup := { State.reset.sup with inputLost := true } } = false
      ∧ State.reset.sup.phase = .reset ∧ State.reset.sup.thermHold = false ∧ State.reset.sup.refLost = false ∧ d.refOk = true ∧ d.sharedFail = none ∧ d.bankOk = true ∧ d.safetyOk = true
      ∧ State.reset.upd.recs = [] ∧ State.reset.upd.bankA.valid = true ∧ State.reset.sup.recoveryReq = false
      ∧ State.reset.cfg.flash.pair = false ∧ d.regionFail = 0 ∧ ({ d with sharedFail := some 15 } : DawnIn).sharedFail = some 15 := by decide

/-! ### Witnesses: the engineering service -/

/-- Session 0 is open with write rights; `f` changes it further. -/
def ses (f : SesSt → SesSt) (s : State) : State :=
  { s with es := { s.es with s0 := f { opened := true, hello := true, write := true, notify := true, bits := 1 } } }
def req (b : List Byte) : EsReq := ⟨0, 0, 1, b⟩
/-- EsReady, of a request in a session with write rights. -/
theorem witness_EsReady : EsReady (ses id on) (req []) ∧ EsReady (ses id loaded) (req []) :=
  by and_intros <;> decide

/-- The trust anchor [1] in slot 0. Whether it accepts a certificate is the uninterpreted part (log 7): one of the two cases of
SESSION_OPEN holds for each. -/
theorem witness_EngineeringSessionsAndRefusals :
    let s := ses id on
    let a := page 256 [1, 0, 1] on
    s.running = true ∧ (sesOf s 0).opened = true ∧ (sesOf s 0).queue = [] ∧ esWaiting s 0 = false ∧ (req []).flags = 0
      ∧ (req [3, 0, 0, 0]).body.length = 4 ∧ field (req [3, 0, 0, 0]).body 0 4 < 4 ∧ (sesOf s 0).hello = true
      ∧ (sesOf (ses (fun x => { x with hello := false }) on) 0).hello = false ∧ opListed 0x76 = false ∧ opListed 0xF0 = false
      ∧ (sesOf (ses (fun x => { x with write := false }) on) 0).write = false
      ∧ on.es.s0.opened = false ∧ (anchors on).any (fun a => Config.certAccepted a.2 []) = false ∧ anchors a = [(0, [1])]
      ∧ (15 : Word).toNat < 16 ∧ 65600 < (65601 : Word).toNat ∧ ¬((16 : Word).toNat < 16 ∨ 65600 < (16 : Word).toNat)
      ∧ ¬((65600 : Word).toNat < 16 ∨ 65600 < (65600 : Word).toNat) ∧ (sesOf s 0).stream = []
      ∧ notifyDue (sesOf s 0) 0 = true ∧ notifyDue { noteNs := some 0 } 10000000 = true ∧ notifyDue { noteNs := some 0 } 9999999 = false
      ∧ (sesOf (ses (fun x => { x with lastNs := 5 }) on) 0).lastNs + 60000000000 ≤ ({ on with now := 60000000005 } : State).now
      ∧ ({ on with now := 60000000004 } : State).now < (sesOf (ses (fun x => { x with lastNs := 5 }) on) 0).lastNs + 60000000000 ∧ (sesOf s 0).notify = true ∧ (sesOf s 0).bits ≠ 0 := by decide +kernel
theorem witness_EngineeringReadsWritesAndExec :
    let s := ses id on
    let b (ws : List Nat) (n : Nat) : List Byte := padTo n (ws.flatMap (leBytes 4))
    s.running = true ∧ (sesOf s 0).opened = true ∧ (sesOf s 0).hello = true ∧ (sesOf s 0).queue = [] ∧ esWaiting s 0 = false
      ∧ (sesOf s 0).write = true ∧ field (b [0xFFFC, 1] 8) 0 4 % 4 = 0 ∧ field (b [0xFFFC, 1] 8) 0 4 + 4 * 1 ≤ 0x10000
      ∧ field (b [0xF000, 1024] 8) 4 4 = 1024 ∧ (b [0x800, 1, 7] 12).length = 12 ∧ field (b [1, 28672, 4096] 12) 4 4 + 4096 ≤ 32768
      ∧ 36 ≤ (b [0] 36).length ∧ (b [0x43] 36).length ≤ 65572 ∧ field (b [0x43] 36) 0 4 = 0x43 ∧ s.es.busy = none
      ∧ ({ s with es := { s.es with busy := some ({}, none) } } : State).es.busy ≠ none := by decide +kernel
theorem witness_ForcesAndSimulationsAreSetAndCleared :
    let s := ses id loaded
    let b (ws : List Nat) : List Byte := ws.flatMap (leBytes 4)
    let full : List ForceEntry := List.replicate 512 ⟨false, 1, 0, 0⟩
    s.running = true ∧ (sesOf s 0).write = true ∧ (sesOf s 0).queue = [] ∧ esWaiting s 0 = false ∧ (b [0x8005, 7]).length = 8
      ∧ (routeOf s.run true 5).isSome = true ∧ fieldW (b [0x8005, 7]) 0 = 0x8005 ∧ s.img.forces.length < 512
      ∧ (¬(full.length < 512 ∨ ∃ x ∈ full, x.out = true ∧ x.num = 5)) ∧ fieldW (b [0xFFFFFFFF]) 0 = 0xFFFFFFFF
      ∧ (b [0, 7, 3]).length = 12 ∧ (routeOf s.run false 0).isSome = true ∧ field (b [0, 7, 3]) 8 4 ≤ 3 ∧ (∀ e ∈ s.img.sims, e.out = false) := by
  decide +kernel
theorem witness_EngineeringDiaryClockAndSettings :
    let s := ses id (page 0x30 [1, 0, 0] on)
    let x : DRec := { seq := 7 }
    let d : State := { s with diary := { s.diary with ready := true, journal := [x], es := { s.diary.es with snap := some (7, 7) } } }
    let b (ws : List Nat) : List Byte := ws.flatMap (leBytes 4)
    s.running = true ∧ (sesOf s 0).write = true ∧ (sesOf s 0).queue = [] ∧ esWaiting s 0 = false ∧ d.diary.ready = true
      ∧ d.diary.es.snap = some (7, 7) ∧ d.diary.es.empty = false ∧ diaFind d 7 7 (fieldW (b [7, 1]) 0) = some (x, 0) ∧ field (b [7, 1]) 4 4 = 1 ∧ s.diary.ready = false
      ∧ fieldB (b [0, 0xFFFCF800, 1]) 8 = 1 ∧ calValid (calOfSet 0 0xFFFCF800) = true ∧ syncLocked s = false ∧ s.rtc.commit = none
      ∧ (settingPage 0x31).isSome = true ∧ settingPage 0x28 = none ∧ settingValid 0x30 [1] = true ∧ dropsLastAnchor s 0x30 [1] = false
      ∧ (b [0x30, 1] ++ [1]).length = 8 + field (b [0x30, 1] ++ [1]) 4 4 := by decide +kernel
theorem witness_StoreRoom : StoreRoom (page 0x30 [1, 0, 0] on) ∧ pageRate (page 0x30 [1, 0, 0] on) [1] = true
    ∧ pageRate { on with stor := { on.stor with psTimes := List.replicate 200 0 } } [1] = false :=
  ⟨⟨by decide, ⟨by decide +kernel, by decide +kernel, by decide +kernel, by decide +kernel, by decide +kernel, by decide +kernel⟩, by decide +kernel⟩,
    by decide +kernel, by decide +kernel⟩

/-- The password page with the hash `h`. -/
def pwPage (h : List Byte) : State := page 80 (64#8 :: 0#8 :: h) on
theorem pwPage_value (h : List Byte) (hl : h.length = 64) : pageValue (pwPage h) 80 = some h := by
  have hh : headOk psLog (headOf 1#8) = true := by decide +kernel
  have hr : psRecs (pwPage h) = [psRec 80 0 (64#8 :: 0#8 :: h)] := by
    have ha : areaRecs psLog (pwPage h) = [(0, psRec 80 0 (64#8 :: 0#8 :: h))] := by
      show List.flatMap _ [((0 : Nat), (⟨.used, some (headOf 1), [psRec 80 0 (64#8 :: 0#8 :: h)]⟩ : LogSector PsRec))] = _
      simp [secRecs, hh]
    have ho : psRecOk (psRec 80 0 (64#8 :: 0#8 :: h)) = true := by simp [psRecOk, psRec, psHeader, Mark.sound, validWord]
    simp [psRecs, ha, ho]
  have hc : psContent (pwPage h) 80 = (64#8 :: 0#8 :: h, false) := by simp [psContent, psNewest, hr, psRec]
  have hf : field (64#8 :: 0#8 :: h) 0 2 = 64 := by simp [field, ofLe]
  have ht : List.take 64 h = h := by rw [← hl]; exact List.take_length
  simp [pageValue, hc, hf, ht, show valuePages 64 = 1 from rfl, show List.range 1 = [0] from rfl]
theorem pwHash_length (pw : List Byte) : (pwHash pw).length = 64 := by simp [pwHash, padTo]; omega
/-- The stored hash is the password's own; and one in which every byte differs from it. -/
theorem witness_SafetyPasswordRightAndWrong (pw : List Byte) :
    (passwordSet (pwPage (pwHash pw)) = true ∧ passwordIs (pwPage (pwHash pw)) pw = true)
      ∧ passwordSet (pwPage ((pwHash pw).map (· + 1))) = true ∧ passwordIs (pwPage ((pwHash pw).map (· + 1))) pw = false := by
  have h1 := pwPage_value (pwHash pw) (pwHash_length pw)
  have h2 := pwPage_value ((pwHash pw).map (· + 1)) (by simp [pwHash_length])
  have hl := pwHash_length pw
  cases hp : pwHash pw with
  | nil => simp [hp] at hl
  | cons x r =>
    rw [hp] at h1 h2
    refine ⟨⟨?_, ?_⟩, ?_, ?_⟩
    · simp [passwordSet, passwordPage, h1]
    · simp [passwordIs, passwordPage, h1, hp]
    · simp only [passwordSet, passwordPage, h2]; simp
    · simp only [passwordIs, passwordPage, h2, hp]; simp
theorem witness_SafetySealPasswordAndChangeLog :
    let s := ses id (page 80 [64, 0] on)
    let g (f : SafeSt → SafeSt) : State := { s with safe := f s.safe }
    let ascii : List Byte := [0x7E, 0x20, 0x41, 0x42, 0x43, 0x44, 0x45, 0x46]
    (sesOf s 0).write = true ∧ s.variant.safety = true ∧ s.running = true ∧ (sesOf s 0).queue = [] ∧ pwLocked s = false ∧ 64 < logFree s
      ∧ s.safe.wrong < 4 ∧ 4 ≤ (g (fun x => { x with wrong := 4 })).safe.wrong ∧ pwLocked (g (fun x => { x with lockEnd := some 1 })) = true
      ∧ s.safe.accSeal = none ∧ passwordSet (ses id on) = false ∧ passwordOk (passwordIn (padTo 64 (List.replicate 32 0 ++ ascii)) 32) = true
      ∧ (logKeep s.safe.log).length < 32768 ∧ field (leBytes 4 0 ++ leBytes 4 1000) 4 4 = 1000 ∧ (g (fun x => { x with st := .stop })).safe.st = .stop
      ∧ ({ s with sup := { s.sup with phase := .recovery } } : State).sup.phase = .recovery
      ∧ s.stor.refresh = none ∧ s.stor.worn = [] ∧ s.stor.retired = [] ∧ pageRate s [] = true ∧ pageRate s (List.replicate 64 0) = true
      ∧ (g (fun x => { x with lockEnd := some 0 })).safe.lockEnd = some 0 := by decide +kernel

/-! ### Witnesses: the safety subsystem and the networks -/

/-- The subsystem runs; T4 is its task, with ENTRY 0x100. -/
def safe (st : SafePhase) (f : SafeSt → SafeSt) : State :=
  { loaded with
    run := { img with safety := some { params := padTo 0x60 (List.replicate 0x20 0 ++ [4, 0, 0, 0, 0, 1]) } }
    safe := f { on.safe with st := st } }
/-- A frame of no words to connection 7 with SEQ 2. -/
def shacia (key : Word) : List Byte :=
  let b : List Byte := [1, 1, 7, 0, 2, 0, 0, 0, 5, 0, 0, 0, 0, 0, 0, 0]
  b ++ wordBytes (scrc (wordBytes key ++ b))
/-- The connection it belongs to, which has sent SEQ 0 at 0. -/
def shaciaConn (st : ConnPhase) : SafeConn := { used := true, id := 7, key := 9, peerId := 5, wdMs := 1, rxSeq := 1, sent := [(0, 0)], st := st }

theorem witness_SafetySubsystemRunsAndStops :
    let s := safe .run id
    let w := task 4 { st := .running } s
    let p (b : Nat) : SafePair := { used := true, tMs := 1, st := .discrepant, since := some b }
    s.up = true ∧ s.safe.st = .run ∧ s.red.st = .single ∧ (10001 : Nat) > 10000 ∧ saValue s .pc ≠ ~~~(0 : Dword) ∧ saValue s .pc = ~~~(~~~(saValue s .pc))
      ∧ (10001 : Dword).toNat > 10000 ∧ (10000 : Dword).toNat ≤ 10000 ∧ safeWdDue s = false
      ∧ safeWdDue (s.modEngine 24 (fun x => { x with run := .lesson 4 0xFFFF })) = true ∧ (s.engine safeEng).run = .free
      ∧ ((s.modEngine 24 (fun x => { x with run := .lesson 4 0xFFFF })).engine safeEng).run = .lesson 4 0xFFFF
      ∧ (safe .selftest id).es.safeRestart = none ∧ s.run.safety.isSome = true
      ∧ (sesOf { (safe .selftest id) with es := { on.es with safeRestart := some 0, s0 := { queue := [(0x73, req [])] } } } 0).queue = [(0x73, req [])]
      ∧ safeWaits w 4 = true ∧ (∀ u : TaskId, safeWaits w u = true → rankBefore w 4 u = true) ∧ (spTaskOf (safeParams w.run) 4).isSome = true
      ∧ (spTaskOf (safeParams s.run) 4).map (fun e => field e 8 4 * 1000) = some 0 ∧ (0 : Nat) ≤ s.now - s.safe.runStart
      ∧ offInRecess w 4 = false ∧ loadRuns (safe .selftest id) = false ∧ s.sup.phase = .run
      ∧ ((task 4 { st := .fault, cause := 2 } (safe .selftest id)).task 4).st = .fault
      ∧ (sesOf { (safe .selftest id) with es := { on.es with safeRestart := some 0, s0 := { queue := [(0x73, req [])] } } } 0).stream = []
      ∧ (let v : State := { s with run := { s.run with safety := some { params := padTo 0x60 (List.replicate 0x20 0 ++ [4, 0, 0, 0, 0, 1, 0, 0, 5]) } } }
         (spTaskOf (safeParams v.run) 4).map (fun e => field e 8 4 * 1000) = some 5000
           ∧ ({ v with now := 4999 } : State).now - v.safe.runStart < 5000 ∧ 5000 ≤ ({ v with now := 5000 } : State).now - v.safe.runStart)
      ∧ standby w = false ∧ 0 + (p 0).tMs * 1000 + pairFilterUs s 23 ≤ ({ s with now := 1000000 } : State).tbrd
      ∧ ({ s with now := 999999 } : State).tbrd < 0 + (p 0).tMs * 1000 := by decide +kernel
theorem witness_ShaciaFramesAreCheckedAndTimed :
    let s := safe .run (fun x => { x with conns := [(63, shaciaConn .run)] })
    let u := safe .run (fun x => { x with conns := [(63, { shaciaConn .run with udp := true, peer := 0x0A000001 })] })
    s.up = true ∧ s.variant.safety = true ∧ (connOf u 63).udp = true ∧ (connOf u 63).peer = (0x0A000001 : Word).toNat
      ∧ (connOf on 0).used = false ∧ shaciaForm (shacia 9) = true ∧ connByPeer s false 0 (field (shacia 9) 2 2) = some 63
      ∧ (connNow { s with safe := { s.safe with conns := [(63, shaciaConn .timeout)] } } (shaciaConn .timeout)).st = .timeout
      ∧ shaciaOk s (connNow s (shaciaConn .run)) (shacia 9) = true ∧ shaciaOk s (connNow s (shaciaConn .run)) (shacia 8) = false
      ∧ connByPeer on false 0 (field (shacia 9) 2 2) = none ∧ connById on (field (shacia 9) 2 2) = none
      ∧ (connOf s 63).wdMs * 1000 ≤ connAge s (connOf s 63)
      ∧ connAge s { shaciaConn .run with echoAt := some 0 } < (shaciaConn .run).wdMs * 1000 := by decide +kernel

/-- A ring with station 254: one input word IW0, one output word QW5. -/
def stnRec254 : List Byte := padTo 32 ([254, 1, 0, 0, 208, 7, 0, 0, 0, 0, 0, 0, 0, 0, 1, 1, 0, 0, 5, 0])
def ring (x : StnSt) (f : NetSt → NetSt) : State :=
  { loaded with
    run := { img with ring := some (padTo 32 [1]), stations := [stnRec254] }
    net := f { on.net with ring := 2, stns := [(254, x)] } }
def input (state : Byte) (cfg param : Word) : List Byte :=
  let b := [1, 2, 254, state] ++ leBytes 2 0 ++ leBytes 2 8 ++ leBytes 4 0 ++ wordBytes cfg ++ wordBytes param ++ leBytes 8 7
  b ++ wordBytes (crc32c b)

theorem witness_StationCyclesRingAndTime :
    let s (x : StnSt) := ring x id
    let ok := input 2 (crc32c stnRec254) (stParam stnRec254)
    let out : StnSt := { st := .running, out := true }
    stnRec (s {}) (254 : StnId) = some stnRec254 ∧ ringSends (s {}) = true ∧ (stn (s { st := .running }) 254).out = false
      ∧ (stn (s { out with missed := 2 }) 254).missed = 2 ∧ (s {}).up = true ∧ (s {}).net.ring ≠ 0
      ∧ krioDiscard (s out) (krioRx []) = true ∧ krioDiscard (s out) (krioRx ok) = false ∧ fieldB ok 1 = 2 ∧ field ok 2 1 = 254 ∧ fieldH ok 4 = out.seq ∧ field ok 3 1 ≠ 0
      ∧ fieldW ok 0x0C = crc32c stnRec254 ∧ fieldW ok 0x10 = stParam stnRec254 ∧ field (input 0 0 0) 3 1 = 0
      ∧ krioDiscard (s out) (krioRx (input 0 0 0)) = false ∧ (stn (s { out with st := .lost, good := 1 }) 254).good = 1
      ∧ ringRing (s {}) = true ∧ ringHsr (s {}) = false ∧ (ring {} (fun r => { r with beaconMiss := 2 })).net.beaconMiss = 2
      ∧ (ring {} (fun r => { r with beaconMiss := 1 })).net.beaconMiss < 2 ∧ (s {}).running = true ∧ ppsInEnabled (s {}) = false
      ∧ ppsInEnabled (page 0x13 [3, 0, 0, 0, 1] on) = true := by decide +kernel
/-- StationCyclesRingAndTime: TBRD at PHASE_US modulo CYCLE_US, not between two cycles and not twice; a pulse at a whole second. -/
theorem witness_CyclesAndPulsesAreDue :
    let s (ns : Nat) (x : StnSt) : State := { ring x id with now := ns }
    let old := padTo 32 [254, 1, 0, 0, 232, 3, 0, 0]
    (s 4000000 {}).tbrd % stCycle stnRec254 = stPhase stnRec254 ∧ (stn (s 4000000 {}) 254).cycleAt ≠ some (s 4000000 {}).tbrd
      ∧ cycleDue 254 (s 4000000 {}) = true ∧ cycleDue 254 (s 3000000 {}) = false ∧ cycleDue 254 (s 4000000 { cycleAt := some 4000 }) = false
      ∧ cycleDue 254 (s 3000000 { old := some (some old) }) = false ∧ cycleDue 254 (s 4000000 { old := some (some old) }) = true
      ∧ (s 4000000 { st := .running }).up = true ∧ (s 0 { st := .running, out := true, missed := 2 }).tbrd % stCycle stnRec254 = stPhase stnRec254
      ∧ (let n (ns : Nat) (at_ : Option Nat) : State := { s 0 {} with net := { (s 0 {}).net with plantNs := ns, ppsAt := at_ } }
         (n 5000000000 none).net.plantNs % 1000000000 = 0 ∧ (n 5000000000 (some 4)).net.ppsAt ≠ some 5 ∧ ppsDue (n 5000000000 (some 4)) = true
           ∧ ppsDue (n 5000000000 (some 5)) = false ∧ ppsDue (n 5000000001 none) = false) := by decide +kernel
/-- ShaciaFramesAreCheckedAndTimed: the loaded parameters name a peer by UDP; 1 and 256 bytes; another address is no peer. -/
theorem witness_ShaciaPeersAreConfigured :
    let e : List Byte := padTo 32 [1, 0, 0, 1, 1, 0, 0, 10]
    let p : List Byte := padTo 0x60 (padTo 17 [] ++ [1]) ++ e
    let s : State := { loaded with run := { img with safety := some { params := p } } }
    s.variant.safety = true ∧ (List.replicate 256 (0 : Byte)).length ≤ 256 ∧ 256 < (List.replicate 257 (0 : Byte)).length
      ∧ e ∈ spConnEntries (safeParams s.run) ∧ connUdp e = true ∧ field e 4 4 = (0x0A000001 : Word).toNat
      ∧ udpPeer s 0x0A000001 = true ∧ udpPeer s 0x0A000002 = false ∧ plantTakes p3 s = true := by decide +kernel
/-- The safe frame of 20 bytes in a KRIO SAFE frame of station 254, and by UDP; a frame that the ring's checks refuse. -/
theorem witness_ShaciaFramesArriveByUdpAndRing :
    let bs := shacia 9
    let head : List Byte := [1, 7, 254, 0, 0, 0, 20, 0] ++ List.replicate 12 0
    let f := krioRx (head ++ bs ++ wordBytes (crc32c (head ++ bs)))
    let c : SafeConn := { shaciaConn .run with peer := 254 }
    let w := safe .run (fun x => { x with conns := [(63, c)] })
    let s : State := { w with run := { w.run with stations := [stnRec254] } }
    let u := safe .run (fun x => { x with inbox := [(0x0A000001, bs)], conns := [(63, { c with udp := true, peer := 0x0A000001 })] })
    (s.safe.st = .run ∧ s.red.st = .single ∧ u.red.st = .single ∧ plantTakes p3 s = true ∧ plantTakes { p3 with tagged := true } s = false)
      ∧ ShaciaArrives s (.ring true false .krio) 0 f.bytes false 254 bs s ∧ shaciaForm bs = true ∧ connByPeer s false 254 (field bs 2 2) = some 63
      ∧ ShaciaArrives u .datagram 0x0A000001 bs true 0x0A000001 bs { u with safe := { u.safe with inbox := u.safe.inbox.erase (0x0A000001, bs) } }
      ∧ connByPeer u true 0x0A000001 (field bs 2 2) = some 63 ∧ krioDiscard s { f with fcsOk := false } = true :=
  ⟨by decide +kernel, ⟨rfl, rfl, rfl, by decide +kernel, by decide, by decide, by decide +kernel, rfl⟩, by decide +kernel, by decide +kernel,
    ⟨rfl, rfl, rfl, by decide +kernel, rfl⟩, by decide +kernel, by decide +kernel⟩
/-- StationCyclesRingAndTime: the bounds of its clauses on records, tags, supervision and time. -/
theorem witness_StationRecordsFramesAndTime :
    let old := padTo 32 ([254, 1, 0, 0, 0, 0, 0, 0, 0, 0, 0, 0, 0, 0, 1, 0])
    let s (x : StnSt) := ring x id
    let m : PtpMsg := ⟨true, ptpDomain (s {}), 3, []⟩
    (stnRec (s { old := some (some old) }) (254 : StnId) = some old ∧ newStnRec (s { old := some (some old) }) (254 : StnId) = some stnRec254)
      ∧ (s {}).net.ring = 2 ∧ (ring {} (fun r => { r with ring := 4 })).net.ring = 4
      ∧ ({ krioRx [] with ether := .supervision 7 } : RingFrame).ether = .supervision 7 ∧ ({ krioRx [] with tagged := true } : RingFrame).tagged = true
      ∧ simFor (s {}) 0 = none ∧ forceFor (s {}) false 0 = none ∧ routedIn (s {}).run 0 = true
      ∧ m.domain = ptpDomain (s {}) ∧ m.delayReq = true ∧ PtpPort.p3 ≠ .ring ∧ ringSends (s {}) = true := by decide +kernel
theorem witness_PlantPortsAndModbusServer :
    let s : State := { loaded with net := { on.net with p3 := [10, 0, 0, 1], conns := [(0, { opened := true }), (7, { opened := true })] } }
    let all : State := { s with net := { s.net with conns := (List.range 8).map (fun k => (k, { opened := true })) } }
    let full : State := { s with net := { s.net with rate3 := List.replicate 20 s.now } }
    plantTakes p3 s = true ∧ plantTakes { p3 with tagged := true } s = false
      ∧ plantTakes { p3 with dup := true } { s with net := { s.net with prp := true } } = false
      ∧ plantRoom s false = true ∧ plantRoom { s with net := { s.net with rate3 := List.replicate 19 s.now } } false = true ∧ plantRoom full false = false
      ∧ (conn s 7).lastNs + 60000000000 ≤ ({ s with now := 60000000000 } : State).now
      ∧ ({ s with now := 59999999999 } : State).now < (conn s 7).lastNs + 60000000000 ∧ plantRoom full (⟨7, true⟩ : MbRx).port4 = true
      ∧ plantRoom full (⟨7, false⟩ : MbRx).port4 = false
      ∧ s.running = true ∧ (wordBytes 0x0A000001).reverse = s.net.p3.take 4 ∧ (wordBytes 0x0A000002).reverse ≠ s.net.p3.take 4
      ∧ (conn s 1).opened = false ∧ (∀ k < 1, (conn s k).opened = true) ∧ (∀ k < 8, (conn all k).opened = true)
      ∧ (conn s 7).opened = true ∧ (conn s 7).wait = false ∧ (65411 : Half).toNat + (125 : Half).toNat ≤ 65536
      ∧ 65536 < (65412 : Half).toNat + (125 : Half).toNat ∧ (125 : Half).toNat ≤ 125 ∧ 125 < (126 : Half).toNat
      ∧ (∀ e ∈ mbWords 512 2 [1, 2], ∃ q ∈ s.run.routes, routeOf s.run false e.num = some q ∧ q.endpoint = 7)
      ∧ routeOf s.run false 32767 = none ∧ (122 : Half).toNat % 2 = 0 ∧ 122 < (123 : Half).toNat := by decide +kernel

/-! ### Witnesses: the pair -/

/-- A record in its turn, and three that are not: a wrong CRC, a frame that comes early, a record before the one in front of it. -/
theorem witness_Arrives :
    let a := red .active id
    Arrives a rx ∧ ¬Arrives a { rx with crcOk := false } ∧ ¬Arrives a { rx with index := 1 }
      ∧ Arrives (red .active (fun r => { r with rxSeq := some 0xFFFFFFFF })) rx
      ∧ ¬Arrives (red .active (fun r => { r with rxSeq := some 0xFFFFFFFF })) { rx with seq := 1 } :=
  ⟨⟨⟨by decide, by decide, by decide⟩, by decide, by decide, by decide⟩, fun h => absurd h.2.1 (by decide), fun h => absurd h.2.2.1 (by decide),
    ⟨⟨by decide, by decide, by decide⟩, by decide, by decide, by decide⟩, fun h => absurd h.1.2.2 (by decide)⟩
/-- A record that is not the first or the last of its frame; records that bring something and records of a wrong form. -/
theorem witness_FramesOfSeveralRecords :
    let m := red .active (fun r => { r with rxCur := 5, rxNext := 2, frame := [.copyEnd 3, .tokenPulse 1] })
    let mid : TrelexRx := ⟨5, 0, 2, true, false⟩
    Comes m mid ∧ Comes m { mid with last := true } ∧ ¬Comes m { mid with index := 1 } ∧ ¬Comes m { mid with seq := 6 }
      ∧ BringsRecord mid (.words ⟨mid, [⟨5, 1, 0⟩]⟩) (.words [⟨5, 1, 0⟩]) ∧ isStream (.words [⟨5, 1, 0⟩]) = true
      ∧ BringsRecord mid (.trelexHello ⟨mid, hello 4 0 (List.replicate 32 0)⟩) (.hello (hello 4 0 (List.replicate 32 0)))
      ∧ Malformed mid (.statePage ⟨mid, 0⟩ [0]) ∧ Malformed mid (.reportCard ⟨mid, []⟩)
      ∧ m.red.frameBad = false ∧ (red .active (fun r => { r with frameBad := true })).red.frameBad = true :=
  ⟨⟨by decide, by decide, by decide⟩, ⟨by decide, by decide, by decide⟩, fun h => absurd h.2.2 (by decide), fun h => absurd h.2.2 (by decide),
    rfl, rfl, ⟨rfl, by decide⟩, .inr (.inr (.inl ⟨0, [0], rfl, by decide⟩)), .inr (.inr (.inr (.inl ⟨[], rfl, by decide⟩))), by decide, by decide⟩
/-- The moments at which the controller's times end. -/
theorem witness_PairTimes :
    let at_ (n : Nat) (s : State) : State := { s with now := n }
    let r := red .ready (fun x => { x with claiming := true, claimNs := 5, freeNs := 7, arbNs := 9, copyNs := 3, failNs := 4 })
    (at_ 10005 r).red.claimNs + 10000 ≤ (at_ 10005 r).now ∧ (at_ 10004 r).now < (at_ 10004 r).red.claimNs + 10000
      ∧ (at_ 100000009 r).red.arbNs + 100000000 ≤ (at_ 100000009 r).now ∧ (at_ 100000008 r).now < (at_ 100000008 r).red.arbNs + 100000000
      ∧ (at_ 100000007 r).red.freeNs + 100000000 ≤ (at_ 100000007 r).now ∧ (at_ 100000006 r).now < (at_ 100000006 r).red.freeNs + 100000000
      ∧ (at_ 10000000003 r).red.copyNs + 10000000000 ≤ (at_ 10000000003 r).now
      ∧ (at_ 10000000002 r).now < (at_ 10000000002 r).red.copyNs + 10000000000
      ∧ (at_ 10000000004 r).red.failNs + 10000000000 ≤ (at_ 10000000004 r).now
      ∧ (at_ 10000000003 r).now < (at_ 10000000003 r).red.failNs + 10000000000
      ∧ (red .arbitrating id).red.notFree = false ∧ (red .held (fun x => { x with il := .released })).red.waitFree = false := by decide
/-- TrelexLinkAndHello: frames at 20 µs, HELLO's digest, a partner of the same make. -/
theorem witness_TrelexFramesAndPartners :
    let f : SentFrame := ⟨3, List.replicate 6 0, true, 0⟩
    let a := red .active (fun x => { x with unacked := [f], partner := some (hello 4 0 []) })
    (f.seq = 3 ∧ f.at_ + 20000 ≤ ({ a with now := 20000 } : State).now) ∧ (∀ g ∈ a.red.unacked, ¬(g.seq = 3 ∧ g.at_ + 20000 ≤ ({ a with now := 19999 } : State).now))
      ∧ 6 ≤ f.bytes.length ∧ (hello 4 0 (List.replicate 32 0)).digest.length = 32 ∧ (hello 4 0 (List.replicate 31 0)).digest.length ≠ 32
      ∧ goodPartner a = true ∧ goodPartner (red .active id) = false
      ∧ (portCur { a with img := { a.img with port := some (.input true), trelexIn := [⟨5, .none, []⟩] } }).isSome = true :=
  ⟨by decide, by decide, by decide, by decide, by decide, goodPartner_hello _ rfl 4 rfl, by decide, by decide⟩
theorem witness_TokenIsClaimedHeldAndHandedOver :
    let a (f : RedSt → RedSt) := red .active f
    let r (f : RedSt → RedSt) := red .ready f
    pairOn (a id) = true ∧ (199 : Half).toNat < 200 ∧ (999 : Half).toNat < 1000 ∧ (2599 : Half).toNat < 2600 ∧ ¬(2600 : Half).toNat < 2600
      ∧ (a (fun x => { x with token := true, pulseOpen := true })).red.oe = false ∧ (r (fun x => { x with waitFree := true })).red.waitFree = true
      ∧ (r id).red.claiming = false ∧ (r id).red.conflict = false ∧ (r id).red.retryNs ≤ (r id).now ∧ replayDone (r id) = true
      ∧ (a id).red.il = .open_ ∧ (a (fun x => { x with il := .held })).red.il = .held ∧ (red .arbitrating id).red.claiming = false
      ∧ partnerActive (red .arbitrating (fun x => { x with il := .released })) = false
      ∧ partnerActive (red .arbitrating (fun x => { x with partner := some ⟨0, true, 2, 1, 0, 0, []⟩ })) = true
      ∧ (red .held (fun x => { x with il := .released })).red.st = .held ∧ (r (fun x => { x with claiming := true, strapB := true })).red.claiming = true
      ∧ (a (fun x => { x with oe := true, il := .held })).red.oe = true ∧ (r id).red.linkUp = true ∧ (r id).red.missed = 0 ∧ disqHour (r id) < 2
      ∧ (∀ k : BitVec 4, k = 6 ∨ k = 3 → (a (fun x => { x with handover := some k })).red.handover = some k)
      ∧ (∀ u : TaskId, ((a id).task u).st ≠ .publish) ∧ (a id).mb.busy = none ∧ standby (r id) = true :=
  by and_intros <;> first | exact fun k h => by rcases h with rfl | rfl <;> decide | decide | decide +kernel
/-- Claims need tasks that run and a partner that R8 does not refuse; a module with a failed self-test joins no pair. -/
theorem witness_ClaimsAndFitness :
    let s (st : RedPhase) (f : SupSt → SupSt) : State := { red st id with sup := f on.sup }
    let bad (p : RedPhase) := (red p id).modRegion 3 (fun x => { x with st := .fault })
    (s .ready id).running = true ∧ (s .ready (fun x => { x with phase := .dusk })).running = false ∧ (s .held (fun x => { x with ending := some (2, 0) })).running = false
      ∧ refused (s .held id) = false ∧ refused (red .held (fun r => { r with disq := 7 })) = true
      ∧ refused (red .held (fun r => { r with partner := some { hello 2 0 [] with variant := 0xFF } })) = true
      ∧ standbyFit (s .arbitrating id) = true ∧ standbyFit (bad .arbitrating) = false ∧ standbyFit (s .held id) = true
      ∧ (s .ready (fun x => { x with phase := .dusk })).sup.phase = .dusk ∧ on.stor.worn = [] ∧ on.stor.retired = []
      ∧ (red .active (fun r => { r with token := true })).red.token = true ∧ (regionFaulted loaded 1) = false
      ∧ ((task 1 { st := .stopped, cause := 0 } loaded).task 1).st = .stopped ∧ (loaded.tcfg 1).kind ≠ 0
      ∧ pairLoads (red .ready id) = true ∧ pairLoads (red .ready (fun r => { r with disq := 7 })) = false ∧ pairLoads on = false :=
  by and_intros <;> first | decide | exact (congrArg not (hello_incompatible _ rfl) : _) | decide +kernel
theorem witness_TrelexLinkAndHello :
    let a (f : RedSt → RedSt) := red .active f
    pairOn (a id) = true ∧ (a (fun x => { x with filling := [1] })).red.filling ≠ [] ∧ (a id).red.linkUp = true ∧ (a id).red.filling = []
      ∧ (∃ f ∈ (a (fun x => { x with unacked := [⟨3, [], false, 0⟩] })).red.unacked, f.seq = 3 ∧ f.at_ + 20000 ≤ 20000) ∧ (∀ f ∈ (a id).red.unacked, f.seq ≠ 3)
      ∧ (a id).red.l0Up = false ∧ (a id).red.l1Up = false ∧ (a (fun x => { x with l1Up := true })).red.l1Up = true
      ∧ (red .syncing id).red.st = .syncing ∧ disqHour (red .syncing id) < 2 ∧ (a id).red.pulseOpen = false
      ∧ compatible (a id) (hello 4 0 []) = true ∧ (red .syncing (fun x => { x with step := 1 })).red.step = 1
      ∧ (hello 2 0 []).gen = (a id).gen ∧ (hello 2 0 []).digest = (a id).run.digest ∧ (hello 2 5 []).gen ≠ (a id).gen ∧ (a id).cfg.job = none
      ∧ compatible (a id) { hello 2 0 [] with variant := 0xFF } = false ∧ (a id).red.token = false ∧ (List.replicate 16 (0 : Word)).length = 16
      ∧ standby (red .comparing id) = true :=
  by and_intros <;> first | exact hello_compatible _ rfl _ _ _ | exact hello_incompatible _ rfl | exact ⟨_, .head _, by decide⟩ | decide
theorem witness_StandbyTakesTheStream :
    let r (f : RedSt → RedSt) := red .ready f
    let c : CompareRec := ⟨1, 0, false, 0, 5, crc32c [], 0⟩
    let k : KeptBatch := { task := 1, act := 5, cause := 0, entries := [] }
    let long : KeptBatch := { k with entries := List.replicate 168 (5, {}) }
    let e : CompareRec × Nat := ({ c with result := 2 }, 0)
    (r id).up = true ∧ taking (r id) = true ∧ ([⟨0, 1, 0⟩, ⟨32767, 1, 0⟩] : List WordEntry).map (·.num) = [0, 32767]
      ∧ twf none (r (fun x => { x with hidden := [(5, some {})] })).red.hidden = true ∧ standby (r id) = true ∧ ((r id).tcfg 1).kind ≠ 0
      ∧ ((task 1 { st := .running } (r id)).task 1).wanted = false ∧ ((task 1 { st := .idle } (r id)).task 1).actCnt = 0
      ∧ (∀ m ∈ (r id).red.marks, m.task ≠ 1) ∧ field (padTo 12 [0, 0, 0, 0, 1]) 4 1 = 1 ∧ (padTo 12 [0, 0, 0, 0, 1]).length = 12
      ∧ readOk ⟨1, 7, 0, 0, [0]⟩ = true ∧ readOk ⟨1, 8, 0, 0, [0]⟩ = false ∧ readOk ⟨1, 1, 0, 0, List.replicate 252 0⟩ = true
      ∧ recessFirst (r id) 1 = false ∧ regionFaulted (r id) 1 = false ∧ (r id).running = true
      ∧ ({ (r id) with now := 999999 } : State).now < 0 + 1000000 ∧ c.fromStandby = false ∧ (r id).red.kept = []
      ∧ k.task = c.task.val ∧ k.act = c.act ∧ crc32c (k.entries.flatMap (fun e => entryBytes e.1 e.2)) = c.crcActive
      ∧ (r (fun x => { x with compares := [(c, 0)] })).red.compares.find? (fun e => e.1.task == (1 : TaskId) && e.1.result == (0 : Byte)) = some (c, 0)
      ∧ (0 : Nat) + 1000000 ≤ ({ (r id) with now := 1000000 } : State).now ∧ disqHour (r id) < 2
      ∧ (red .active (fun x => { x with kept := [long] })).red.kept.find? (fun x => x.task == (1 : TaskId).val && x.act == 5) = some long
      ∧ long.entries.length ≤ 168 ∧ e ∈ (r (fun x => { x with compares := [e] })).red.compares ∧ e.1.result = (2 : Byte)
      ∧ (r id).red.fetched.length + 0 < long.entries.length ∧ k.entries.length ≤ (r id).red.fetched.length + 0 := by decide +kernel
theorem witness_ResynchronisationCopiesAndCuts :
    let y (n : Nat) (f : RedSt → RedSt) := red .syncing (fun x => f { x with step := n })
    let a (f : RedSt → RedSt) := red .active (fun x => f { x with step := 3, partner := some (hello 4 0 []) })
    (y 3 id).up = true ∧ (y 3 id).red.st = .syncing ∧ 3 ≤ (y 3 id).red.step ∧ (List.replicate 1024 (0 : Byte)).length = 1024
      ∧ (16383 : Nat) < 16384 ∧ (y 5 id).red.step = 5 ∧ (y 5 id).red.marks = [] ∧ (a id).red.linkUp = true
      ∧ compatible (a id) (hello 4 0 []) = true ∧ (y 3 id).red.st ≠ .active
      ∧ (∀ k : TaskId, ((a id).task k).st ≠ .rollCall ∧ ((a id).task k).st ≠ .running ∧ ((a id).task k).st ≠ .publish)
      ∧ (dirtyPages (a id)).length ≤ 4096 ∧ ((task 31 { st := .running } (a id)).task 31).st = .running
      ∧ (y 1 (fun x => { x with failed := true })).red.failed = true ∧ (y 1 id).red.partner = none ∧ (y 1 id).red.failed = false :=
  by and_intros <;> first | decide +kernel | exact hello_compatible _ rfl _ _ _
/-- Step 5, with what waits for its end; an active module that R8's partner follows; a failed copy whose load has ended. -/
theorem witness_StepFiveAndRetries :
    let y := red .syncing (fun x => { x with step := 5, held := [.words [⟨5, 1, 0⟩]] })
    let f := red .syncing (fun x => { x with failed := true, partner := none })
    y.red.st = .syncing ∧ y.red.step = 5 ∧ y.red.held ≠ [] ∧ isStream (.compare ⟨1, 0, false, 0, 0, 0, 0⟩) = true ∧ isStream (.copyEnd 0) = false
      ∧ standby y = false ∧ standby (red .active id) = false ∧ goodPartner (red .active id) = false
      ∧ (∀ j, f.cfg.job = some j → j.resync = none)
      ∧ (∀ j, ({ f with cfg := { f.cfg with job := some { phase := .checking } } } : State).cfg.job = some j → j.resync = none) ∧ (red .ready id).sup.phase ≠ .dusk :=
  ⟨by decide, by decide, by decide, rfl, rfl, by decide, by decide, by decide, (by intro _ h; cases h), (by intro _ h; cases h; rfl), by decide⟩
/-- PARTNER words that wait behind a batch at the port, or behind the reflex lane. -/
theorem witness_PartnerWordsWait :
    let p (lane : List LaneStep) : State :=
      let a := red .active id
      { a with img := { a.img with port := some (.input true), trelexIn := [⟨5, .none, []⟩], lane := lane } }
    portCur (p []) = some (.input true) ∧ portGlide (.input true) (p []) = none := by decide

/-! ### Witnesses: loads, edits, the whole module -/

/-- A delta of generation 1 on generation 0 that holds a map of T0 and nothing else (R153). -/
def mapOnly : List Byte :=
  leBytes 4 0x314F4E58 ++ [1, 0, 64, 0, 2, 0, 0, 0, 144, 0, 0, 0, 1, 0, 0, 0, 0, 0, 0, 0, 0, 0, 1, 0, 64, 0, 0, 0] ++ List.replicate 28 0
    ++ wordBytes 0xC68E419D ++ [13, 0, 0, 0, 80, 0, 0, 0, 32, 0, 0, 0] ++ wordBytes 0x8A9136AA ++ List.replicate 32 0
    ++ [193, 124, 129, 89, 135, 121, 188, 28, 163, 137, 209, 166, 124, 136, 92, 203, 22, 200, 180, 157, 194, 154, 112, 27, 210, 7, 124, 176, 59, 235,
      171, 140]
def baseImg : ImageCfg := { loaded := true, tasks := [{ kind := 1, period := 1000 }] }
def edit (p : LoadPhase) (f : LoadJob → LoadJob) : LoadJob := f { phase := p, bytes := mapOnly, delta := true, new_ := baseImg }
def withJob (j : LoadJob) (s : State) : State := { s with cfg := { s.cfg with job := some j } }

/-- R46, R116, R166: with and without a partner; a waiting TASK_STOP under a load; a Recess with RESTART; a full staging area. -/
theorem witness_LoadsAndEditsWithAPartner :
    let s (j : LoadJob) (st : RedPhase) := withJob j { red st id with run := { baseImg with pair := true } }
    let q (c : BitVec 4) := task 0 { st := .running, stopReq := some c } (s (edit .checking id) .active)
    let r (j : LoadJob) := task 0 { st := .idle } (withJob j { on with run := baseImg })
    let again := edit .waiting (fun j => { j with edit := { j.edit with map := { j.edit.map with restart := true } } })
    pairLoads (s (edit .partner id) .active) = true ∧ pairLoads (r (edit .checking id)) = false
      ∧ (standby on = false ∧ on.red.st ≠ .syncing ∧ partnerReady on = false)
      ∧ ((q 1).task 0).stopReq = some 1 ∧ ((q 7).task 0).stopReq = some 7 ∧ ((q 3).task 0).stopReq = some 3
      ∧ (s (edit .staging id) .active).red.linkUp = true ∧ (on.stor.worn = [] ∧ on.stor.retired = [])
      ∧ stagingFull (withJob (edit .storing id) { on with stor := { on.stor with stagingUsed := 1024 } }) = true
      ∧ recessEdge again (r again) = true ∧ notReady again (r again) = none ∧ again.edit.map.restart = true ∧ ((r again).task 0).st = .idle
      ∧ again.commit = none ∧ (r again).img.glides = [] ∧ (r again).img.lostWords = none
      ∧ (taskCfg { baseImg with tasks := [{ kind := 1, period := 2000 }] } 0).period ≠ ((r again).tcfg 0).period
      ∧ ((task 0 { st := .recess } (r again)).task 0).st = .recess ∧ (edit .partner id).delta = true := by decide +kernel
/-- A delta that passes stages 2 to 6. The smallest full image is 7,376 bytes long; the kernel is not asked to hash one. -/
theorem witness_DeltaPassesTheCheck : checkImage { on with run := baseImg } mapOnly = none ∧ hdrDelta mapOnly = true := by decide +kernel
theorem witness_LoadsGoFromCheckToActivation :
    let s (p : LoadPhase) (f : LoadJob → LoadJob) : State := withJob (f { phase := p }) on
    let g (r : RestartPhase) : State := { (on.modRegion 15 (fun x => { x with restart := r })) with
      run := { img with tasks := [{ kind := 1, regionMask := 0x8000 }] } }
    (s .checking id).up = true ∧ pairOn (s .checking id) = false ∧ (checkImage (s .checking id) []).isSome = true
      ∧ ((task 1 { st := .running } loaded).task 1).st = .running ∧ ((task 1 { st := .fault } loaded).task 1).st = .fault ∧ on.cfg.job = none
      ∧ pairOn (withJob (edit .partner id) (red .active id)) = true ∧ (red .ready id).red.st ≠ .active
      ∧ 0 + 2000000000 ≤ ({ (s .partner id) with now := 2000000000 } : State).now ∧ ({ (s .partner id) with now := 1999999999 } : State).now < 0 + 2000000000
      ∧ (List.replicate 32 (0 : Byte)).length = 32 ∧ lanePending 1 loaded = false
      ∧ tasksStopped (s .stopping id) = true ∧ (s .stopping id).run.pair = false
      ∧ tasksStopped (task 31 { st := .idle } (s .stopping id)) = false
      ∧ (⟨0, [], []⟩ : RegionTest).selftestFail = 0 ∧ (⟨0, [], [(0, false, 63)]⟩ : RegionTest).frameFail ≠ [] ∧ on.mb.busy = none
      ∧ ((g .selftest).region 15).restart = .selftest ∧ ((g .loading).region 15).restart = .loading
      ∧ regionOwner (g .loading).run 15 = some 0 ∧ ((task 0 { st := .stopped } (g .loading)).task 0).st = .stopped
      ∧ (∀ m ∈ taskRegions ((g .loading).tcfg 0), m ≠ 15 → ((g .loading).region m).st ≠ .fault) := by decide +kernel
theorem witness_EditsGoFromStoreToRecord :
    let s (p : LoadPhase) (f : LoadJob → LoadJob) : State := withJob (edit p f) { on with run := baseImg }
    let blocks (j : LoadJob) : LoadJob := { j with edit := { j.edit with blocks := [(15, 0)] } }
    let own (st : RegionState) : State := { (s .waiting blocks) with
      run := { baseImg with tasks := [{ kind := 1, period := 1000, regionMask := 0x8000 }] }, regions := [(15, { st := st, shadowReady := true })] }
    (s .waiting (fun j => { j with staged := 0 })).cfg.job = some (edit .waiting id) ∧ 0 + 30000000000 ≤ ({ (s .waiting id) with now := 30000000000 } : State).now
      ∧ ({ (s .waiting id) with now := 29999999999 } : State).now < 0 + 30000000000
      ∧ (((s .waiting id).task 0).pending = false ∧ standby (s .waiting id) = false) ∧ ((task 0 { st := .recess } (s .recess id)).task 0).st = .recess
      ∧ (∃ b ∈ ({ flips := [⟨15, true, 0, false, 0, 0⟩] } : RegionSt).flips, b.plane1 ≠ ({} : RegionSt).plane1) ∧ (own .idle |>.region 15).flips = []
      ∧ stagingFull (s .storing id) = false ∧ pairOn (s .staging id) = false ∧ swapRegions (edit .staging blocks) = [15]
      ∧ pairOn (withJob (edit .waiting id) (red .ready id)) = true ∧ (red .ready id).red.st ≠ .active
      ∧ recessEdge (edit .waiting id) (task 0 { st := .running } (s .waiting id)) = false
      ∧ recessEdge (edit .waiting id) (task 0 { st := .idle } (s .waiting id)) = true ∧ notReady (edit .waiting id) (s .waiting id) = none
      ∧ (edit .waiting id).edit.map.restart = false ∧ notReady (edit .waiting blocks) (own .fault) = some 15
      ∧ notReady (edit .waiting blocks) (own .running) = none ∧ (edit .recess (fun j => { j with was := .idle })).was = .idle
      ∧ (taskCfg baseImg 0).kind = 1 ∧ ((s .recess id).task 0).stopReq = none
      ∧ ({ on with cfg := { on.cfg with consolid := true } } : State).cfg.consolid = true ∧ on.cfg.consolid = false := by decide +kernel
theorem witness_StepRunsTheFrontCommand :
    ({ on with pending := [.freeze true, .ppsOut] } : State).pending = .freeze true :: [.ppsOut] := rfl
/-- A state with memories and clock fields in range, and the state after a step of it. -/
theorem witness_EveryStepKeeps :
    let s : State := { on with shared := [⟨3, 1⟩], pending := [.freeze true] }
    memoriesWf s ∧ clocksWf s ∧ step s = .next { on with shared := [⟨3, 1⟩], host := { on.host with freeze := true } } :=
  ⟨⟨by decide, by decide, by decide, by decide, by decide, fun _ => rfl⟩, ⟨by decide, by decide, by decide⟩, rfl⟩

end Sys2Proof.Tests
end

namespace Sys2Proof.Machine

/-! ### The arms of `exec` -/

section Arms

variable (s : State) (e : EngId) (rd ra rb : Reg) (imm : Half)

theorem exec_add : exec (.add e rd ra rb) s = execAdd e rd ra rb s := rfl
theorem exec_sub : exec (.sub e rd ra rb) s = execSub e rd ra rb s := rfl
theorem exec_mul : exec (.mul e rd ra rb) s = execMul e rd ra rb s := rfl
theorem exec_addw : exec (.addw e rd ra rb) s = execAddw e rd ra rb s := rfl
theorem exec_subw : exec (.subw e rd ra rb) s = execSubw e rd ra rb s := rfl
theorem exec_mulw : exec (.mulw e rd ra rb) s = execMulw e rd ra rb s := rfl
theorem exec_and : exec (.and e rd ra rb) s = execAnd e rd ra rb s := rfl
theorem exec_or : exec (.or e rd ra rb) s = execOr e rd ra rb s := rfl
theorem exec_xor : exec (.xor e rd ra rb) s = execXor e rd ra rb s := rfl
theorem exec_andn : exec (.andn e rd ra rb) s = execAndn e rd ra rb s := rfl
theorem exec_adds : exec (.adds e rd ra rb) s = execAdds e rd ra rb s := rfl
theorem exec_subs : exec (.subs e rd ra rb) s = execSubs e rd ra rb s := rfl
theorem exec_addsw : exec (.addsw e rd ra rb) s = execAddsw e rd ra rb s := rfl
theorem exec_subsw : exec (.subsw e rd ra rb) s = execSubsw e rd ra rb s := rfl
theorem exec_mulsw : exec (.mulsw e rd ra rb) s = execMulsw e rd ra rb s := rfl
theorem exec_addusw : exec (.addusw e rd ra rb) s = execAddusw e rd ra rb s := rfl
theorem exec_subusw : exec (.subusw e rd ra rb) s = execSubusw e rd ra rb s := rfl
theorem exec_mulusw : exec (.mulusw e rd ra rb) s = execMulusw e rd ra rb s := rfl
theorem exec_div : exec (.div e rd ra rb) s = execDiv e rd ra rb s := rfl
theorem exec_divw : exec (.divw e rd ra rb) s = execDivw e rd ra rb s := rfl
theorem exec_divu : exec (.divu e rd ra rb) s = execDivu e rd ra rb s := rfl
theorem exec_divuw : exec (.divuw e rd ra rb) s = execDivuw e rd ra rb s := rfl
theorem exec_rem : exec (.rem e rd ra rb) s = execRem e rd ra rb s := rfl
theorem exec_remw : exec (.remw e rd ra rb) s = execRemw e rd ra rb s := rfl
theorem exec_remu : exec (.remu e rd ra rb) s = execRemu e rd ra rb s := rfl
theorem exec_remuw : exec (.remuw e rd ra rb) s = execRemuw e rd ra rb s := rfl
theorem exec_satsb : exec (.satsb e rd ra) s = execSatsb e rd ra s := rfl
theorem exec_satsh : exec (.satsh e rd ra) s = execSatsh e rd ra s := rfl
theorem exec_satsw : exec (.satsw e rd ra) s = execSatsw e rd ra s := rfl
theorem exec_satub : exec (.satub e rd ra) s = execSatub e rd ra s := rfl
theorem exec_satuh : exec (.satuh e rd ra) s = execSatuh e rd ra s := rfl
theorem exec_satuw : exec (.satuw e rd ra) s = execSatuw e rd ra s := rfl
theorem exec_addi : exec (.addi e rd ra imm) s = execAddi e rd ra imm s := rfl
theorem exec_trd : exec (.trd e rd ra imm) s = execTrd e rd ra imm s := rfl
theorem exec_trp : exec (.trp e rd ra imm) s = execTrp e rd ra imm s := rfl
theorem exec_tin : exec (.tin e rd ra imm) s = execTin e rd ra imm s := rfl
theorem exec_trst : exec (.trst e rd ra imm) s = execTrst e rd ra imm s := rfl
theorem exec_tpt : exec (.tpt e rd ra imm) s = execTpt e rd ra imm s := rfl

end Arms

/-! ### What an FB instruction leaves outside the engines -/

theorem wSet_zero (e : EngId) (v : Dword) (s : State) : wSet e 0 v s = s := by simp [wSet]

theorem pcNext_wSet_tasks (e : EngId) (rd : Reg) (v : Dword) (s : State) : (pcNext e (wSet e rd v s)).tasks = s.tasks :=
  (congrArg State.tasks (pcNext_wSet_engines e rd v s []) :)

theorem pcNext_wSet_diary (e : EngId) (rd : Reg) (v : Dword) (s : State) : (pcNext e (wSet e rd v s)).diary = s.diary :=
  (congrArg State.diary (pcNext_wSet_engines e rd v s []) :)

/-- The write of W0 writes nothing: only PC moves. -/
theorem passes_of_writes_zero {s t : State} {e : EngId} {v : Dword} (h : Writes s t e 0 v) : Passes s t e := by
  obtain ⟨_, hother, hstep⟩ := h
  refine ⟨fun r => ?_, hstep⟩
  by_cases hr : r = 0
  · simp [wGet, hr]
  · exact hother r hr

/-- PC moves on in a state that has the engines of `s`: no register changes. -/
theorem passes_pcNext {s u : State} (e : EngId) (h : u.engines = s.engines) : Passes s (pcNext e u) e := by
  have hw := writes_pcNext_wSet e 0 0 h
  rw [wSet_zero] at hw
  exact passes_of_writes_zero hw

/-! ### Saturation (R93) -/

theorem clampS_eq_max_min (n : Nat) (v : Int) :
    clampS n v = max (-(2 : Int) ^ (n - 1)) (min ((2 : Int) ^ (n - 1) - 1) v) := by
  have hp : (0 : Int) < 2 ^ (n - 1) := Int.pow_pos (by decide)
  unfold clampS
  split
  · omega
  · split <;> omega

theorem clampU_eq_max_min (n : Nat) (v : Int) : clampU n v = max 0 (min ((2 : Int) ^ n - 1) v) := by
  have hp : (0 : Int) < 2 ^ n := Int.pow_pos (by decide)
  unfold clampU
  split
  · omega
  · split <;> omega

theorem ofInt_clampS (n : Nat) (v : Int) : BitVec.ofInt 64 (clampS n v) = nearestS n v := by
  rw [clampS_eq_max_min, nearestS]

theorem ofInt_clampU (n : Nat) (v : Int) : BitVec.ofInt 64 (clampU n v) = nearestU n v := by
  rw [clampU_eq_max_min, nearestU]

theorem gives_of_fbAlu2 {s : State} {e : EngId} {tk : TaskId} {l : Nat} {i : Instr} {rd ra rb : Reg} {f : Dword → Dword → Dword}
    {v : Dword} (h : Issues s e tk l) (hx : exec i s = fbAlu2 e rd ra rb f s) (hv : f (wGet s e ra) (wGet s e rb) = v) :
    Gives s i e rd v := gives_of_fbWrite h hx hv

theorem gives_of_fbAlu1 {s : State} {e : EngId} {tk : TaskId} {l : Nat} {i : Instr} {rd ra : Reg} {f : Dword → Dword}
    {v : Dword} (h : Issues s e tk l) (hx : exec i s = fbAlu1 e rd ra f s) (hv : f (wGet s e ra) = v) :
    Gives s i e rd v := gives_of_fbWrite h hx hv

/-- Settles O1: every opcode is one register write; a saturating one writes the clamped exact result. -/
theorem wrappingBitwiseAndSaturatingResults : Obligations.WrappingBitwiseAndSaturatingResults := by
  refine ⟨fun s e tk l rd ra rb imm h => ?_, fun s e tk l rd ra rb h => ?_⟩
  · refine ⟨?add, ?addi, ?sub, ?mul, ?addw, ?subw, ?mulw, ?and, ?or, ?xor, ?andn⟩
    case addi => exact gives_of_fbAlu1 h (exec_addi ..) rfl
    case add => exact gives_of_fbAlu2 h (exec_add ..) rfl
    case sub => exact gives_of_fbAlu2 h (exec_sub ..) rfl
    case mul => exact gives_of_fbAlu2 h (exec_mul ..) rfl
    case addw => exact gives_of_fbAlu2 h (exec_addw ..) rfl
    case subw => exact gives_of_fbAlu2 h (exec_subw ..) rfl
    case mulw => exact gives_of_fbAlu2 h (exec_mulw ..) rfl
    case and => exact gives_of_fbAlu2 h (exec_and ..) rfl
    case or => exact gives_of_fbAlu2 h (exec_or ..) rfl
    case xor => exact gives_of_fbAlu2 h (exec_xor ..) rfl
    case andn => exact gives_of_fbAlu2 h (exec_andn ..) rfl
  · refine ⟨?adds, ?subs, ?addsw, ?subsw, ?mulsw, ?addusw, ?subusw, ?mulusw, ?satsb, ?satsh, ?satsw, ?satub, ?satuh, ?satuw⟩
    case adds => exact gives_of_fbAlu2 h (exec_adds ..) (ofInt_clampS _ _)
    case subs => exact gives_of_fbAlu2 h (exec_subs ..) (ofInt_clampS _ _)
    case addsw => exact gives_of_fbAlu2 h (exec_addsw ..) (ofInt_clampS _ _)
    case subsw => exact gives_of_fbAlu2 h (exec_subsw ..) (ofInt_clampS _ _)
    case mulsw => exact gives_of_fbAlu2 h (exec_mulsw ..) (ofInt_clampS _ _)
    case addusw => exact gives_of_fbAlu2 h (exec_addusw ..) (ofInt_clampU _ _)
    case subusw => exact gives_of_fbAlu2 h (exec_subusw ..) (ofInt_clampU _ _)
    case mulusw => exact gives_of_fbAlu2 h (exec_mulusw ..) (ofInt_clampU _ _)
    case satsb => exact gives_of_fbAlu1 h (exec_satsb ..) (ofInt_clampS _ _)
    case satsh => exact gives_of_fbAlu1 h (exec_satsh ..) (ofInt_clampS _ _)
    case satsw => exact gives_of_fbAlu1 h (exec_satsw ..) (ofInt_clampS _ _)
    case satub => exact gives_of_fbAlu1 h (exec_satub ..) (ofInt_clampU _ _)
    case satuh => exact gives_of_fbAlu1 h (exec_satuh ..) (ofInt_clampU _ _)
    case satuw => exact gives_of_fbAlu1 h (exec_satuw ..) (ofInt_clampU _ _)

/-! ### TASK_FAULT flags (R110) -/

theorem or_boolBit_of_getLsbD {x : Word} {n : Nat} (h : x.getLsbD n = true) : x ||| boolBit n true = x := by
  refine BitVec.eq_of_getLsbD_eq fun i _ => ?_
  by_cases hi : i = n
  · simp [hi, h]
  · have hbit : (BitVec.ofNat 32 (2 ^ n)).getLsbD i = false := by
      rw [BitVec.getLsbD_ofNat, Nat.testBit_two_pow_of_ne (Ne.symm hi), Bool.and_false]
    rw [boolBit, if_pos rfl, BitVec.getLsbD_or, hbit, Bool.or_false]

/-- The flag is set in the task's TASK_FAULT and nowhere else, whether or not it was set before. -/
theorem fbFlag_task (e : EngId) (t : TaskId) (bit : Nat) (s : State) (u : Nat) : (fbFlag e t bit s).task u
    = if u = t.val then { s.task t with fault := (s.task t).fault ||| boolBit bit true } else s.task u := by
  unfold fbFlag
  split
  next hset =>
    rw [or_boolBit_of_getLsbD hset]
    split
    next hu => rw [hu]
    next => rfl
  next =>
    have htask (k : Nat) (code inst : Half) (d : List Byte) : (diaryRaise code inst d s).task k = s.task k :=
      congrArg (tget ({} : TaskSt) · k) (signalsOnly_tasks (diaryRaise_signals code inst d s))
    simp only [modTask_task, htask]

theorem fbFlagIf_task (b : Bool) (e : EngId) (t : TaskId) (bit : Nat) (s : State) (u : Nat) : (fbFlagIf b e t bit s).task u
    = if b = true ∧ u = t.val then { s.task t with fault := (s.task t).fault ||| boolBit bit true } else s.task u := by
  cases b <;> simp [fbFlagIf, fbFlag_task]

/-- An instruction that may set a flag and then writes a register. -/
theorem givesFlag_of_exec {s : State} {e : EngId} {tk : TaskId} {i : Instr} {rd : Reg} {v : Dword} {bit : Nat} {raised : Bool}
    (hx : exec i s = .next (pcNext e (wSet e rd v (fbFlagIf raised e tk bit s)))) : GivesFlag s i e tk rd v bit raised := by
  have hframe := fbFlagIf_fault raised e tk bit s
  have hengines : (fbFlagIf raised e tk bit s).engines = s.engines := (congrArg State.engines hframe :)
  have htask (k : Nat) : (pcNext e (wSet e rd v (fbFlagIf raised e tk bit s))).task k
      = if raised = true ∧ k = tk.val then { s.task tk with fault := (s.task tk).fault ||| boolBit bit true } else s.task k :=
    (congrArg (tget ({} : TaskSt) · k) (pcNext_wSet_tasks e rd v _)).trans (fbFlagIf_task raised e tk bit s k)
  refine ⟨_, hx, writes_pcNext_wSet e rd v hengines, ?_, fun u hu => ?_, ?_, fun hr => ?_, ?_⟩
  · rw [htask]
    cases raised <;> simp
  · rw [htask, if_neg fun hk => hu hk.2]
  · rw [htask]
    cases raised <;> simp
  · rw [pcNext_wSet_diary, hr]; rfl
  · have hpc := congrArg (fun u : State => { u with tasks := s.tasks, diary := s.diary })
      (pcNext_wSet_engines e rd v (fbFlagIf raised e tk bit s) s.engines)
    exact hpc.trans (congrArg (fun u : State => { u with engines := s.engines }) hframe :)

theorem givesFlag_of_fbAluFlag {s : State} {e : EngId} {tk : TaskId} {l : Nat} {i : Instr} {rd ra rb : Reg}
    {f : Dword → Dword → Dword × Bool} {v : Dword} {raised : Bool} (h : Issues s e tk l)
    (hx : exec i s = fbAluFlag e rd ra rb f s) (hv : f (wGet s e ra) (wGet s e rb) = (v, raised)) :
    GivesFlag s i e tk rd v tfArith raised := by
  apply givesFlag_of_exec
  rw [hx, fbAluFlag, fbStep_issues h, hv]

/-! ### Division (R94) -/

section Division

variable {n : Nat}

theorem ofInt_tdiv_toInt (x y : BitVec n) : BitVec.ofInt n (Int.tdiv x.toInt y.toInt) = x.sdiv y := by
  rw [← BitVec.toInt_inj, BitVec.toInt_ofInt, BitVec.toInt_sdiv]

theorem toInt_eq_zero_iff (y : BitVec n) : y.toInt = 0 ↔ y = 0 := by
  rw [← BitVec.toInt_inj, BitVec.ofNat_eq_ofNat, BitVec.toInt_zero]

theorem toNat_eq_zero_iff (y : BitVec n) : y.toNat = 0 ↔ y = 0 := by
  rw [← BitVec.toNat_inj, BitVec.ofNat_eq_ofNat, BitVec.toNat_zero]

theorem toInt_eq_intMin_iff (hn : 0 < n) (x : BitVec n) : x.toInt = -2 ^ (n - 1) ↔ x = BitVec.intMin n := by
  rw [← BitVec.toInt_inj, BitVec.toInt_intMin_of_pos hn]

theorem toInt_eq_neg_one_iff (hn : 0 < n) (y : BitVec n) : y.toInt = -1 ↔ y = -1#n := by
  rw [← BitVec.toInt_inj, BitVec.neg_one_eq_allOnes, BitVec.toInt_allOnes, if_pos hn]

/-- The quotient that a signed division gives is the machine quotient, sign-extended: its one overflow, of the most negative
value by −1, wraps to that value. -/
theorem divS_eq (hn : 0 < n) (a b : Dword) :
    let x := a.setWidth n
    let y := b.setWidth n
    divS n a b = (if decide (y = 0) then 0 else (BitVec.ofInt n (Int.tdiv x.toInt y.toInt)).signExtend 64,
      decide (y = 0) || decide (x.toInt = -2 ^ (n - 1) ∧ y.toInt = -1)) := by
  intro x y
  change (if y.toInt = 0 then _ else if x.toInt = -2 ^ (n - 1) ∧ y.toInt = -1 then (BitVec.ofInt 64 x.toInt, true)
    else (BitVec.ofInt 64 (Int.tdiv x.toInt y.toInt), false)) = _
  rw [ofInt_tdiv_toInt, BitVec.signExtend]
  by_cases hzero : y = 0
  · simp [hzero]
  by_cases hover : x.toInt = -2 ^ (n - 1) ∧ y.toInt = -1
  · have hself : x.sdiv y = x := by
      rw [(toInt_eq_intMin_iff hn x).1 hover.1, (toInt_eq_neg_one_iff hn y).1 hover.2, BitVec.intMin_sdiv_neg_one]
    rw [hself, if_neg (mt (toInt_eq_zero_iff y).1 hzero), if_pos hover, decide_eq_false hzero, decide_eq_true hover]
    rfl
  · have hexact : (x.sdiv y).toInt = Int.tdiv x.toInt y.toInt := by
      refine BitVec.toInt_sdiv_of_ne_or_ne x y (Decidable.not_and_iff_not_or_not.1 fun hxy => hover ?_)
      exact ⟨(toInt_eq_intMin_iff hn x).2 hxy.1, (toInt_eq_neg_one_iff hn y).2 hxy.2⟩
    rw [hexact, if_neg (mt (toInt_eq_zero_iff y).1 hzero), if_neg hover, decide_eq_false hzero, decide_eq_false hover]
    rfl

/-- A value that is refused with 0 and the flag, as its two parts. -/
theorem zeroFlag_eq (c : Prop) [Decidable c] (v : Dword) :
    (if c then ((0 : Dword), true) else (v, false)) = (if decide c then 0 else v, decide c) := by
  by_cases hc : c <;> simp [hc]

theorem remS_eq (a b : Dword) :
    let x := a.setWidth n
    let y := b.setWidth n
    remS n a b = (if decide (y = 0) then 0 else BitVec.ofInt 64 (Int.tmod x.toInt y.toInt), decide (y = 0)) := by
  simp only [remS, toInt_eq_zero_iff]
  exact zeroFlag_eq _ _

theorem divU_eq (a b : Dword) :
    let x := a.setWidth n
    let y := b.setWidth n
    divU n a b = (if decide (y = 0) then 0 else BitVec.ofNat 64 (x.toNat / y.toNat), decide (y = 0)) := by
  simp only [divU, toNat_eq_zero_iff]
  exact zeroFlag_eq _ _

theorem remU_eq (a b : Dword) :
    let x := a.setWidth n
    let y := b.setWidth n
    remU n a b = (if decide (y = 0) then 0 else BitVec.ofNat 64 (x.toNat % y.toNat), decide (y = 0)) := by
  simp only [remU, toNat_eq_zero_iff]
  exact zeroFlag_eq _ _

end Division

/-- Settles O3: each opcode writes the value part of its division and raises ARITH by its flag part (`divS_eq` for the overflow). -/
theorem divisionResultsAndArithFlag : Obligations.DivisionResultsAndArithFlag := by
  intro s e tk l rd ra rb h
  refine ⟨?div, ?divw, ?divu, ?divuw, ?rem, ?remw, ?remu, ?remuw⟩
  case div =>
    refine givesFlag_of_fbAluFlag h (exec_div ..) ((divS_eq (by decide) _ _).trans ?_)
    simp only [BitVec.setWidth_eq, BitVec.signExtend_eq]
  case divw => exact givesFlag_of_fbAluFlag h (exec_divw ..) (divS_eq (by decide) _ _)
  case divu =>
    refine givesFlag_of_fbAluFlag h (exec_divu ..) ((divU_eq _ _).trans ?_)
    simp only [BitVec.setWidth_eq]
  case divuw => exact givesFlag_of_fbAluFlag h (exec_divuw ..) (divU_eq _ _)
  case rem =>
    refine givesFlag_of_fbAluFlag h (exec_rem ..) ((remS_eq _ _).trans ?_)
    simp only [BitVec.setWidth_eq]
  case remw => exact givesFlag_of_fbAluFlag h (exec_remw ..) (remS_eq _ _)
  case remu =>
    refine givesFlag_of_fbAluFlag h (exec_remu ..) ((remU_eq _ _).trans ?_)
    simp only [BitVec.setWidth_eq]
  case remuw => exact givesFlag_of_fbAluFlag h (exec_remuw ..) (remU_eq _ _)

/-! ### Reads that the stream carries (R285) -/

theorem emitReads_frame (t k l first : Nat) (vs : List Dword) (s : State) :
    { emitReads t k l first vs s with red := s.red } = s := by
  unfold emitReads
  refine List.foldlRecOn (motive := fun u : State => { u with red := s.red } = s) _ _ rfl fun u hu m _ => ?_
  exact (congrArg (fun w : State => { w with red := s.red }) (emit_frame 4 _ u) :).trans hu

/-- In a module that is no standby a read takes the module's own value; only the redundancy controller notes it. -/
theorem fbStreamed_own (e : EngId) (t : TaskId) (kind : Nat) (own : Dword) (k : Dword → State → State) (s : State)
    (hs : standby s = false) : ∃ u, fbStreamed e t kind own k s = k own u ∧ { u with red := s.red } = s := by
  by_cases ha : streaming s = true
  · refine ⟨_, by simp only [fbStreamed, takeReads, hs, ha, if_true, Bool.false_eq_true, if_false]; rfl, ?_⟩
    exact emitReads_frame t.val kind (fbReadLesson s e) _ [own] s
  · exact ⟨s, by simp [fbStreamed, takeReads, hs, ha], rfl⟩

theorem givesStreamed_of_fbStreamed {s : State} {i : Instr} {e : EngId} {t : TaskId} {kind : Nat} {rd : Reg} {own : Dword}
    (hs : standby s = false) (hx : exec i s = .next (fbStreamed e t kind own (fun v u => pcNext e (wSet e rd v u)) s)) :
    GivesStreamed s i e rd own := by
  obtain ⟨u, hu, hframe⟩ := fbStreamed_own e t kind own (fun v u => pcNext e (wSet e rd v u)) s hs
  refine ⟨_, hx.trans (congrArg _ hu), writes_pcNext_wSet e rd own (congrArg State.engines hframe :), ?_⟩
  have hpc := congrArg (fun w : State => { w with red := s.red }) (pcNext_wSet_engines e rd own u s.engines)
  exact hpc.trans (congrArg (fun w : State => { w with engines := s.engines }) hframe :)

/-! ### Timer instructions (R103) -/

section Timers

variable {s : State} {e : EngId} {tk : TaskId} {l : Nat} {i : Instr} {rd ra : Reg} {imm : Half} {kind n : Nat} {w : Dword}
  {v : TimerSt → Dword} {ok : TimerSt → Bool} {f : TimerSt → TimerSt}

/-- SA and SB have no timer instructions (Table 10-1). -/
theorem faults_of_fbTimerRead (h : Issues s e tk l) (he : e.val = 24) (hx : exec i s = fbTimerRead e rd ra imm kind v s) :
    Faults s i e tk fcIllegal (instrWord s e) 0 :=
  hx.trans (fbMain_safety h he _)

theorem faults_of_fbTimerWrite (h : Issues s e tk l) (he : e.val = 24) (hx : exec i s = fbTimerWrite e ra imm ok f s) :
    Faults s i e tk fcIllegal (instrWord s e) 0 :=
  hx.trans (fbMain_safety h he _)

/-- The task's own timer is read, in a module that is no standby. -/
theorem givesStreamed_of_fbTimerRead (h : Issues s e tk l) (he : e.val ≠ 24) (hx : exec i s = fbTimerRead e rd ra imm kind v s)
    (hn : fbIndex s e ra imm = n) (hown : timerOwn s tk n = true) (hs : standby s = false) (hw : v (s.timer n) = w) :
    GivesStreamed s i e rd w := by
  refine givesStreamed_of_fbStreamed (t := tk) (kind := kind) hs ?_
  rw [hx, fbTimerRead, fbMain_issues h he, hn]
  simp only [hown, hw, if_true]

/-- The read of any other timer gives 0 and TIMER. -/
theorem givesFlag_of_fbTimerRead (h : Issues s e tk l) (he : e.val ≠ 24) (hx : exec i s = fbTimerRead e rd ra imm kind v s)
    (hn : fbIndex s e ra imm = n) (hown : timerOwn s tk n = false) : GivesFlag s i e tk rd 0 tfTimer true := by
  apply givesFlag_of_exec
  rw [hx, fbTimerRead, fbMain_issues h he, hn]
  simp [hown, fbFlagIf]

/-- A permitted write of the task's own timer changes that timer alone. -/
theorem sets_of_fbTimerWrite {y : TimerSt} (h : Issues s e tk l) (he : e.val ≠ 24) (hx : exec i s = fbTimerWrite e ra imm ok f s)
    (hn : fbIndex s e ra imm = n) (hown : timerOwn s tk n = true) (hok : ok (s.timer n) = true) (hy : f (s.timer n) = y) :
    ∃ t, exec i s = .next t ∧ Passes s t e ∧ t.timer n = y ∧ (∀ k : Nat, k ≠ n → t.timer k = s.timer k)
      ∧ { t with engines := s.engines, timers := s.timers } = s := by
  have htimer (k : Nat) : (pcNext e (s.setTimer n y)).timer k = (s.setTimer n y).timer k := rfl
  refine ⟨pcNext e (s.setTimer n y), ?_, passes_pcNext e rfl, ?_, fun k hk => ?_, rfl⟩
  · rw [hx, fbTimerWrite, fbMain_issues h he, hn]
    simp [hown, hok, hy]
  · rw [htimer, setTimer_timer_same]
  · rw [htimer, setTimer_timer, if_neg hk]

/-- The write of any other timer, or one that is not permitted, sets TIMER and nothing else. -/
theorem givesFlag_of_fbTimerWrite (h : Issues s e tk l) (he : e.val ≠ 24) (hx : exec i s = fbTimerWrite e ra imm ok f s)
    (hn : fbIndex s e ra imm = n) (hbad : timerOwn s tk n = false ∨ ok (s.timer n) = false) :
    GivesFlag s i e tk 0 0 tfTimer true := by
  apply givesFlag_of_exec
  rw [hx, fbTimerWrite, fbMain_issues h he, wSet_zero, hn]
  rcases hbad with hbad | hbad <;> simp [hbad, fbFlagIf]

end Timers

/-- Settles O13: SA and SB refuse the five instructions; elsewhere each follows the ownership of the timer, the fabric's drive
and the range of the preset. -/
theorem timerInstructionsReachTheTasksOwnTimers : Obligations.TimerInstructionsReachTheTasksOwnTimers := by
  intro s e tk l rd ra imm h n x own d sets
  refine ⟨fun he i hi => ?_, fun he => ⟨fun hown hs => ?_, fun hown => ?_, fun hown hfab => ?_, fun hbad => ?_, fun hown hd => ?_,
    fun hbad => ?_⟩⟩
  · simp only [List.mem_cons, List.not_mem_nil, or_false] at hi
    rcases hi with rfl | rfl | rfl | rfl | rfl
    · exact faults_of_fbTimerRead h he (exec_trd ..)
    · exact faults_of_fbTimerRead h he (exec_trp ..)
    · exact faults_of_fbTimerWrite h he (exec_tin ..)
    · exact faults_of_fbTimerWrite h he (exec_trst ..)
    · exact faults_of_fbTimerWrite h he (exec_tpt ..)
  · exact ⟨givesStreamed_of_fbTimerRead h he (exec_trd ..) rfl hown hs rfl,
      givesStreamed_of_fbTimerRead h he (exec_trp ..) rfl hown hs rfl⟩
  · exact ⟨givesFlag_of_fbTimerRead h he (exec_trd ..) rfl hown, givesFlag_of_fbTimerRead h he (exec_trp ..) rfl hown⟩
  · have hok : (!x.fabric) = true := by rw [hfab]; rfl
    exact ⟨sets_of_fbTimerWrite h he (exec_tin ..) rfl hown hok rfl, sets_of_fbTimerWrite h he (exec_trst ..) rfl hown hok rfl⟩
  · have hbad' : own = false ∨ (!x.fabric) = false := hbad.imp_right fun hfab => by rw [hfab]; rfl
    exact ⟨givesFlag_of_fbTimerWrite h he (exec_tin ..) rfl hbad', givesFlag_of_fbTimerWrite h he (exec_trst ..) rfl hbad'⟩
  · exact sets_of_fbTimerWrite h he (exec_tpt ..) rfl hown (decide_eq_true hd) rfl
  · have hbad' : own = false ∨ decide (d.toNat < 2 ^ 48) = false := hbad.imp_right fun hd => decide_eq_false (Nat.not_lt.2 hd)
    exact givesFlag_of_fbTimerWrite h he (exec_tpt ..) rfl hbad'

end Sys2Proof.Machine
